-- ==== Sys2Proof/Word.lean ====
section
/-! DEFINITION. The words of HDRDEC (spec R7: LSB-origin bit numbering, unsigned bit vectors). -/

namespace Sys2Proof

/-- One octet of the header, byte0 to byte3 (R12). -/
abbrev Octet := BitVec 8

/-- The 16-bit word made of the first two octets (R30). -/
abbrev Word16 := BitVec 16

/-- The whole header `H = byte0 || byte1 || byte2 || byte3` (R31, R40). -/
abbrev HeaderWord := BitVec 32

/-- A raw 2-bit code: version, layer, channel mode, emphasis (R14, D18). -/
abbrev Code2 := BitVec 2

end Sys2Proof
end

