-- ==== Sys2Proof/Config.lean ====
section
/-! DEFINITION. What an implementation fixes: the eight lookup tables (R5, R22, D14).
The values the machine runs with are `Machine.tables`, in Machine/Tables.lean. -/

namespace Sys2Proof

/-- The identities of the five bit-rate tables (R26). Keys that share a table share its identity (R75). -/
inductive BrTable where
  | brV1L1
  | brV1L2
  | brV1L3
  | brV2L1
  | brV2L23
  deriving DecidableEq, Repr

/-- The identities of the three sampling-frequency tables (R27). -/
inductive SfTable where
  | sfV1
  | sfV2
  | sfV25
  deriving DecidableEq, Repr

/-- The contents of the tables, fixed when the block is built (R5, R22, R37).
A bit-rate table has 14 entries, for index 1 to 14 in that order (R26, 90_conflicts.md C2).
A sampling-frequency table has an entry for index 0, 1, 2; its entry 3 is -1 in every table (R27),
which is structure and no field. -/
structure Config where
  brV1L1 : Vector Nat 14
  brV1L2 : Vector Nat 14
  brV1L3 : Vector Nat 14
  brV2L1 : Vector Nat 14
  brV2L23 : Vector Nat 14
  sfV1 : Vector Nat 3
  sfV2 : Vector Nat 3
  sfV25 : Vector Nat 3
  deriving DecidableEq, Repr

end Sys2Proof
end

