-- ==== Sys2Proof/Syntax.lean ====
section
/-! DEFINITION. The instructions (one constructor per row of spec/opcode_table.json), the width
selector, what the host can present at the ports, and the names of the 2-bit codes. -/

namespace Sys2Proof

/-- The width selector of the Bit Extractor, "an explicit tagged option" (R55). -/
inductive Width where
  /-- Everything from the offset to the most significant bit, no mask (R66). -/
  | rest
  /-- An `n`-bit field, mask `2^n - 1` (R67). The port expresses 1 to 31 (R55). -/
  | exact (n : Nat)
  deriving DecidableEq, Repr

/-- The names of the version codes, in code order 0 to 3 (R42). -/
inductive Version where
  | mpeg25
  | reserved
  | mpeg2
  | mpeg1
  deriving DecidableEq, Repr

/-- The names of the layer codes, in code order 0 to 3 (R43). -/
inductive Layer where
  | reserved
  | layerIII
  | layerII
  | layerI
  deriving DecidableEq, Repr

/-- The names of the channel mode codes, in code order 0 to 3 (R48). -/
inductive ChannelMode where
  | stereo
  | jointStereo
  | dualChannel
  | singleChannel
  deriving DecidableEq, Repr

/-- The names of the emphasis codes, in code order 0 to 3 (R51). -/
inductive Emphasis where
  | none
  | us50_15
  | reserved
  | ccitJ17
  deriving DecidableEq, Repr

/-- The instructions. The first five are the operations of R57. The others are the class rows over
the header word (30_encoding.md, head): each names the headers with one field fixed. A class row
carries the header bits above (`hi`) and below (`lo`) its fixed field, so that every value of it
lies in its class (log entry 5). -/
inductive Instr where
  /-- `EXTRACT8 value, offset, width` (R64). -/
  | extract8 (value : Octet) (offset : BitVec 3) (width : Width)
  /-- `EXTRACT16 value, offset, width` (R65). -/
  | extract16 (value : Word16) (offset : BitVec 4) (width : Width)
  /-- `BRLOOKUP version, layer, index` (R73). -/
  | brlookup (version layer : Code2) (index : BitVec 4)
  /-- `SFLOOKUP version, index` (R82). -/
  | sflookup (version index : Code2)
  /-- `DECODE b0 b1 b2 b3`, the octets in stream order (R90). -/
  | decode (b0 b1 b2 b3 : Octet)
  /-- `BRSEL.V1L1`: `H[20:17] = 0b1111` (R53). -/
  | brselV1L1 (hi : BitVec 11) (lo : BitVec 17)
  /-- `BRSEL.V1L2`: `H[20:17] = 0b1110` (R53). -/
  | brselV1L2 (hi : BitVec 11) (lo : BitVec 17)
  /-- `BRSEL.V1L3`: `H[20:17] = 0b1101` (R53). -/
  | brselV1L3 (hi : BitVec 11) (lo : BitVec 17)
  /-- `BRSEL.V2L1`: `H[19:17] = 0b011`; the version's high bit is free (R53). -/
  | brselV2L1 (hi : BitVec 12) (lo : BitVec 17)
  /-- `BRSEL.V2L2`: `H[19:17] = 0b010` (R53). -/
  | brselV2L2 (hi : BitVec 12) (lo : BitVec 17)
  /-- `BRSEL.V2L3`: `H[19:17] = 0b001` (R53). -/
  | brselV2L3 (hi : BitVec 12) (lo : BitVec 17)
  /-- `BRSEL.RSVV`: version code 1, any layer (R53). -/
  | brselRsvV (hi : BitVec 11) (lo : BitVec 19)
  /-- `BRSEL.RSVL`: layer code 0, any version (R53). -/
  | brselRsvL (hi : BitVec 13) (lo : BitVec 17)
  /-- `SFSEL.V1`: version code 3 (R54). -/
  | sfselV1 (hi : BitVec 11) (lo : BitVec 19)
  /-- `SFSEL.V2`: version code 2 (R54). -/
  | sfselV2 (hi : BitVec 11) (lo : BitVec 19)
  /-- `SFSEL.V25`: version code 0 (R54). -/
  | sfselV25 (hi : BitVec 11) (lo : BitVec 19)
  /-- `SFSEL.RSVV`: version code 1 (R54). -/
  | sfselRsvV (hi : BitVec 11) (lo : BitVec 19)
  /-- `BRIDX.FREE`: bit-rate index 0 (R45). -/
  | bridxFree (hi : BitVec 16) (lo : BitVec 12)
  /-- `BRIDX.BAD`: bit-rate index 15 (R45). -/
  | bridxBad (hi : BitVec 16) (lo : BitVec 12)
  /-- `SFIDX.RSV`: sampling-frequency index 3 (R46). -/
  | sfidxRsv (hi : BitVec 20) (lo : BitVec 10)
  /-- `VERSION.0`: MPEG-2.5 (R42). -/
  | version0 (hi : BitVec 11) (lo : BitVec 19)
  /-- `VERSION.1`: Reserved (R42). -/
  | version1 (hi : BitVec 11) (lo : BitVec 19)
  /-- `VERSION.2`: MPEG-2 (R42). -/
  | version2 (hi : BitVec 11) (lo : BitVec 19)
  /-- `VERSION.3`: MPEG-1 (R42). -/
  | version3 (hi : BitVec 11) (lo : BitVec 19)
  /-- `LAYER.0`: Reserved (R43). -/
  | layer0 (hi : BitVec 13) (lo : BitVec 17)
  /-- `LAYER.1`: Layer III (R43). -/
  | layer1 (hi : BitVec 13) (lo : BitVec 17)
  /-- `LAYER.2`: Layer II (R43). -/
  | layer2 (hi : BitVec 13) (lo : BitVec 17)
  /-- `LAYER.3`: Layer I (R43). -/
  | layer3 (hi : BitVec 13) (lo : BitVec 17)
  /-- `PROT.0`: protection bit 0 (R44). -/
  | prot0 (hi : BitVec 15) (lo : BitVec 16)
  /-- `PROT.1`: protection bit 1 (R44). -/
  | prot1 (hi : BitVec 15) (lo : BitVec 16)
  /-- `CHMODE.0`: Stereo (R48). -/
  | chmode0 (hi : BitVec 24) (lo : BitVec 6)
  /-- `CHMODE.1`: Joint Stereo (R48). -/
  | chmode1 (hi : BitVec 24) (lo : BitVec 6)
  /-- `CHMODE.2`: Dual Channel (R48). -/
  | chmode2 (hi : BitVec 24) (lo : BitVec 6)
  /-- `CHMODE.3`: Single Channel (R48). -/
  | chmode3 (hi : BitVec 24) (lo : BitVec 6)
  /-- `EMPH.0`: None (R51). -/
  | emph0 (hi : BitVec 30)
  /-- `EMPH.1`: 50/15 ms (R51). -/
  | emph1 (hi : BitVec 30)
  /-- `EMPH.2`: Reserved (R51). -/
  | emph2 (hi : BitVec 30)
  /-- `EMPH.3`: CCIT J.17 (R51). -/
  | emph3 (hi : BitVec 30)
  /-- `SYNC.OK`: frame sync `0x7FF` (R91); the block does not test it (R106). -/
  | syncOk (lo : BitVec 21)
  deriving DecidableEq, Repr

/-- One thing the host presents at the ports (R16, R57): a rising edge of `CLK` with the wrapper's
inputs as sampled there, or an operand word on the ports of a combinational module. Each word has
exactly its port's width, so none is out of range (R59, R69). -/
inductive Input where
  /-- A rising edge of `CLK` with `RST`, `IN_VALID` and `IN_HDR` (R16, R107). -/
  | edge (rst inValid : Bool) (inHdr : HeaderWord)
  /-- `wsel[4:0] || offset[2:0] || value[7:0]` on `BITX8` (R57). -/
  | bitx8 (word : BitVec 16)
  /-- `wsel[4:0] || offset[3:0] || value[15:0]` on `BITX16` (R57). -/
  | bitx16 (word : BitVec 25)
  /-- `version[1:0] || layer[1:0] || index[3:0]` on `BRTAB` (R57). -/
  | brtab (word : BitVec 8)
  /-- `version[1:0] || index[1:0]` on `SFTAB` (R57). -/
  | sftab (word : BitVec 4)
  deriving DecidableEq, Repr

/-- What a presented input asks of the block (R107): a reset edge, an edge with no header, or one
of the operations. -/
inductive Event where
  | reset
  | idle
  | operation (i : Instr)
  deriving DecidableEq, Repr

/-- The rows of spec/opcode_table.json by name, to decode a word as a given row's. -/
inductive Row where
  | extract8 | extract16 | brlookup | sflookup | decode
  | brselV1L1 | brselV1L2 | brselV1L3 | brselV2L1 | brselV2L2 | brselV2L3 | brselRsvV | brselRsvL
  | sfselV1 | sfselV2 | sfselV25 | sfselRsvV
  | bridxFree | bridxBad | sfidxRsv
  | version0 | version1 | version2 | version3
  | layer0 | layer1 | layer2 | layer3
  | prot0 | prot1
  | chmode0 | chmode1 | chmode2 | chmode3
  | emph0 | emph1 | emph2 | emph3
  | syncOk
  deriving DecidableEq, Repr

/-- The row of an instruction. -/
def Instr.row : Instr → Row
  | .extract8 .. => .extract8
  | .extract16 .. => .extract16
  | .brlookup .. => .brlookup
  | .sflookup .. => .sflookup
  | .decode .. => .decode
  | .brselV1L1 .. => .brselV1L1
  | .brselV1L2 .. => .brselV1L2
  | .brselV1L3 .. => .brselV1L3
  | .brselV2L1 .. => .brselV2L1
  | .brselV2L2 .. => .brselV2L2
  | .brselV2L3 .. => .brselV2L3
  | .brselRsvV .. => .brselRsvV
  | .brselRsvL .. => .brselRsvL
  | .sfselV1 .. => .sfselV1
  | .sfselV2 .. => .sfselV2
  | .sfselV25 .. => .sfselV25
  | .sfselRsvV .. => .sfselRsvV
  | .bridxFree .. => .bridxFree
  | .bridxBad .. => .bridxBad
  | .sfidxRsv .. => .sfidxRsv
  | .version0 .. => .version0
  | .version1 .. => .version1
  | .version2 .. => .version2
  | .version3 .. => .version3
  | .layer0 .. => .layer0
  | .layer1 .. => .layer1
  | .layer2 .. => .layer2
  | .layer3 .. => .layer3
  | .prot0 .. => .prot0
  | .prot1 .. => .prot1
  | .chmode0 .. => .chmode0
  | .chmode1 .. => .chmode1
  | .chmode2 .. => .chmode2
  | .chmode3 .. => .chmode3
  | .emph0 .. => .emph0
  | .emph1 .. => .emph1
  | .emph2 .. => .emph2
  | .emph3 .. => .emph3
  | .syncOk .. => .syncOk

end Sys2Proof
end

