-- ==== Sys2Proof/WellFormed.lean ====
section
/-! DEFINITION. Which instructions the ports can express. The widths of the other operands are
their types; what is left to check is the count of `Exact(n)`. -/

namespace Sys2Proof

/-- A width selector the 5-bit `wsel` port can carry: `Rest`, or `Exact(n)` with `n` from 1 to 31;
"There is no `Exact(0)`" (R55). -/
def Width.wf : Width → Bool
  | .rest => true
  | .exact n => decide (1 ≤ n) && decide (n ≤ 31)

/-- An instruction whose operands its ports can carry (R55, R57). -/
def Instr.wf : Instr → Bool
  | .extract8 _ _ w => w.wf
  | .extract16 _ _ w => w.wf
  | .brlookup .. | .sflookup .. | .decode .. | .brselV1L1 .. | .brselV1L2 .. | .brselV1L3 ..
  | .brselV2L1 .. | .brselV2L2 .. | .brselV2L3 .. | .brselRsvV .. | .brselRsvL .. | .sfselV1 ..
  | .sfselV2 .. | .sfselV25 .. | .sfselRsvV .. | .bridxFree .. | .bridxBad .. | .sfidxRsv ..
  | .version0 .. | .version1 .. | .version2 .. | .version3 .. | .layer0 .. | .layer1 ..
  | .layer2 .. | .layer3 .. | .prot0 .. | .prot1 .. | .chmode0 .. | .chmode1 .. | .chmode2 ..
  | .chmode3 .. | .emph0 .. | .emph1 .. | .emph2 .. | .emph3 .. | .syncOk .. => true

end Sys2Proof
end

