-- ==== Sys2Proof/Decode.lean ====
section
/-! DEFINITION. The decoder and the encoder. Every operand word has a meaning (R59), so reading a
presented input cannot fail. Decoding a word AS A GIVEN ROW rejects, by name, what the row's mask and
match or its width exclude. -/

namespace Sys2Proof

/-- Why a word is not one of a row's. Raised by `decodeRow` and `decodeOctets`, never by a step: safe. -/
inductive Reject where
  /-- The word has more bits than the row's operand port (R57). -/
  | wordTooWide
  /-- `(H & mask) != match`: the header is outside the row's class (30_encoding.md, head). -/
  | outsideClass
  /-- A header is "exactly 4 octets"; anything else is never presented (R12, R39, R112). -/
  | octetCount
  deriving DecidableEq, Repr

/-! ## The octets of a header word, decided here once: byte0 in bits 31:24 (R31) -/

/-- byte0, the first octet of the stream. -/
def wordOctet0 (h : HeaderWord) : Octet := h.extractLsb' 24 8
/-- byte1. -/
def wordOctet1 (h : HeaderWord) : Octet := h.extractLsb' 16 8
/-- byte2. -/
def wordOctet2 (h : HeaderWord) : Octet := h.extractLsb' 8 8
/-- byte3. -/
def wordOctet3 (h : HeaderWord) : Octet := h.extractLsb' 0 8

/-! ## The width selector on its port (R55) -/

/-- `wsel = 0` is `Rest`, `wsel = n` is `Exact(n)`: a count, not a mask (R55, R56, D8). -/
def widthOfWsel (wsel : BitVec 5) : Width :=
  if wsel = 0#5 then .rest else .exact wsel.toNat

/-- The port value of a width selector (R55, R56). -/
def wselOfWidth : Width → BitVec 5
  | .rest => 0#5
  | .exact n => BitVec.ofNat 5 n

/-! ## The operand words (R57), most significant field first -/

/-- `wsel[4:0] || offset[2:0] || value[7:0]` (R57, R64). -/
def decodeBitx8 (w : BitVec 16) : Instr :=
  .extract8 (w.extractLsb' 0 8) (w.extractLsb' 8 3) (widthOfWsel (w.extractLsb' 11 5))

/-- `wsel[4:0] || offset[3:0] || value[15:0]` (R57, R65). -/
def decodeBitx16 (w : BitVec 25) : Instr :=
  .extract16 (w.extractLsb' 0 16) (w.extractLsb' 16 4) (widthOfWsel (w.extractLsb' 20 5))

/-- `version[1:0] || layer[1:0] || index[3:0]` (R57, R73). -/
def decodeBrtab (w : BitVec 8) : Instr :=
  .brlookup (w.extractLsb' 6 2) (w.extractLsb' 4 2) (w.extractLsb' 0 4)

/-- `version[1:0] || index[1:0]` (R57, R82). -/
def decodeSftab (w : BitVec 4) : Instr :=
  .sflookup (w.extractLsb' 2 2) (w.extractLsb' 0 2)

/-- `byte0 || byte1 || byte2 || byte3`, byte0 in bits 31:24 (R31, R57, R90). -/
def decodeHdr (h : HeaderWord) : Instr :=
  .decode (wordOctet0 h) (wordOctet1 h) (wordOctet2 h) (wordOctet3 h)

/-- What a presented input asks of the block. `RST` has priority over `IN_VALID`; `IN_HDR` is
ignored when `IN_VALID = 0` (R16, R107). -/
def decodeInput : Input → Event
  | .edge true _ _ => .reset
  | .edge false false _ => .idle
  | .edge false true h => .operation (decodeHdr h)
  | .bitx8 w => .operation (decodeBitx8 w)
  | .bitx16 w => .operation (decodeBitx16 w)
  | .brtab w => .operation (decodeBrtab w)
  | .sftab w => .operation (decodeSftab w)

/-- A header as octets in stream order (R29): exactly four, or it is no header (R12, R112). -/
def decodeOctets : List Octet → Except Reject Instr
  | [b0, b1, b2, b3] => .ok (.decode b0 b1 b2 b3)
  | [] | [_] | [_, _] | [_, _, _] | _ :: _ :: _ :: _ :: _ :: _ => .error .octetCount

/-! ## The opcode table -/

/-- One row of spec/opcode_table.json: its mnemonic, its width in bits, and its mask and match over
the word. The five operation rows fix no bit (mask 0, R59). -/
structure RowSpec where
  mnemonic : String
  width : Nat
  mask : BitVec 32
  pattern : BitVec 32
  deriving DecidableEq, Repr

/-- The table, row by row: the operations (R57) and the classes (R42 to R46, R48, R51, R53, R54, R91). -/
def Row.spec : Row → RowSpec
  | .extract8 => ⟨"EXTRACT8", 16, 0#32, 0#32⟩
  | .extract16 => ⟨"EXTRACT16", 25, 0#32, 0#32⟩
  | .brlookup => ⟨"BRLOOKUP", 8, 0#32, 0#32⟩
  | .sflookup => ⟨"SFLOOKUP", 4, 0#32, 0#32⟩
  | .decode => ⟨"DECODE", 32, 0#32, 0#32⟩
  | .brselV1L1 => ⟨"BRSEL.V1L1", 32, 0x001E0000#32, 0x001E0000#32⟩
  | .brselV1L2 => ⟨"BRSEL.V1L2", 32, 0x001E0000#32, 0x001C0000#32⟩
  | .brselV1L3 => ⟨"BRSEL.V1L3", 32, 0x001E0000#32, 0x001A0000#32⟩
  | .brselV2L1 => ⟨"BRSEL.V2L1", 32, 0x000E0000#32, 0x00060000#32⟩
  | .brselV2L2 => ⟨"BRSEL.V2L2", 32, 0x000E0000#32, 0x00040000#32⟩
  | .brselV2L3 => ⟨"BRSEL.V2L3", 32, 0x000E0000#32, 0x00020000#32⟩
  | .brselRsvV => ⟨"BRSEL.RSVV", 32, 0x00180000#32, 0x00080000#32⟩
  | .brselRsvL => ⟨"BRSEL.RSVL", 32, 0x00060000#32, 0x00000000#32⟩
  | .sfselV1 => ⟨"SFSEL.V1", 32, 0x00180000#32, 0x00180000#32⟩
  | .sfselV2 => ⟨"SFSEL.V2", 32, 0x00180000#32, 0x00100000#32⟩
  | .sfselV25 => ⟨"SFSEL.V25", 32, 0x00180000#32, 0x00000000#32⟩
  | .sfselRsvV => ⟨"SFSEL.RSVV", 32, 0x00180000#32, 0x00080000#32⟩
  | .bridxFree => ⟨"BRIDX.FREE", 32, 0x0000F000#32, 0x00000000#32⟩
  | .bridxBad => ⟨"BRIDX.BAD", 32, 0x0000F000#32, 0x0000F000#32⟩
  | .sfidxRsv => ⟨"SFIDX.RSV", 32, 0x00000C00#32, 0x00000C00#32⟩
  | .version0 => ⟨"VERSION.0", 32, 0x00180000#32, 0x00000000#32⟩
  | .version1 => ⟨"VERSION.1", 32, 0x00180000#32, 0x00080000#32⟩
  | .version2 => ⟨"VERSION.2", 32, 0x00180000#32, 0x00100000#32⟩
  | .version3 => ⟨"VERSION.3", 32, 0x00180000#32, 0x00180000#32⟩
  | .layer0 => ⟨"LAYER.0", 32, 0x00060000#32, 0x00000000#32⟩
  | .layer1 => ⟨"LAYER.1", 32, 0x00060000#32, 0x00020000#32⟩
  | .layer2 => ⟨"LAYER.2", 32, 0x00060000#32, 0x00040000#32⟩
  | .layer3 => ⟨"LAYER.3", 32, 0x00060000#32, 0x00060000#32⟩
  | .prot0 => ⟨"PROT.0", 32, 0x00010000#32, 0x00000000#32⟩
  | .prot1 => ⟨"PROT.1", 32, 0x00010000#32, 0x00010000#32⟩
  | .chmode0 => ⟨"CHMODE.0", 32, 0x000000C0#32, 0x00000000#32⟩
  | .chmode1 => ⟨"CHMODE.1", 32, 0x000000C0#32, 0x00000040#32⟩
  | .chmode2 => ⟨"CHMODE.2", 32, 0x000000C0#32, 0x00000080#32⟩
  | .chmode3 => ⟨"CHMODE.3", 32, 0x000000C0#32, 0x000000C0#32⟩
  | .emph0 => ⟨"EMPH.0", 32, 0x00000003#32, 0x00000000#32⟩
  | .emph1 => ⟨"EMPH.1", 32, 0x00000003#32, 0x00000001#32⟩
  | .emph2 => ⟨"EMPH.2", 32, 0x00000003#32, 0x00000002#32⟩
  | .emph3 => ⟨"EMPH.3", 32, 0x00000003#32, 0x00000003#32⟩
  | .syncOk => ⟨"SYNC.OK", 32, 0xFFE00000#32, 0xFFE00000#32⟩

/-- A class row applies to a word when `(H & mask) == match` (30_encoding.md, head). -/
def Row.applies (r : Row) (h : HeaderWord) : Bool :=
  h &&& r.spec.mask == r.spec.pattern

/-- The word's fields as a given row cuts them; meaningful when the row applies. -/
def Row.cut (r : Row) (w : BitVec 32) : Instr :=
  match r with
  | .extract8 => decodeBitx8 (w.setWidth 16)
  | .extract16 => decodeBitx16 (w.setWidth 25)
  | .brlookup => decodeBrtab (w.setWidth 8)
  | .sflookup => decodeSftab (w.setWidth 4)
  | .decode => decodeHdr w
  | .brselV1L1 => .brselV1L1 (w.extractLsb' 21 11) (w.extractLsb' 0 17)
  | .brselV1L2 => .brselV1L2 (w.extractLsb' 21 11) (w.extractLsb' 0 17)
  | .brselV1L3 => .brselV1L3 (w.extractLsb' 21 11) (w.extractLsb' 0 17)
  | .brselV2L1 => .brselV2L1 (w.extractLsb' 20 12) (w.extractLsb' 0 17)
  | .brselV2L2 => .brselV2L2 (w.extractLsb' 20 12) (w.extractLsb' 0 17)
  | .brselV2L3 => .brselV2L3 (w.extractLsb' 20 12) (w.extractLsb' 0 17)
  | .brselRsvV => .brselRsvV (w.extractLsb' 21 11) (w.extractLsb' 0 19)
  | .brselRsvL => .brselRsvL (w.extractLsb' 19 13) (w.extractLsb' 0 17)
  | .sfselV1 => .sfselV1 (w.extractLsb' 21 11) (w.extractLsb' 0 19)
  | .sfselV2 => .sfselV2 (w.extractLsb' 21 11) (w.extractLsb' 0 19)
  | .sfselV25 => .sfselV25 (w.extractLsb' 21 11) (w.extractLsb' 0 19)
  | .sfselRsvV => .sfselRsvV (w.extractLsb' 21 11) (w.extractLsb' 0 19)
  | .bridxFree => .bridxFree (w.extractLsb' 16 16) (w.extractLsb' 0 12)
  | .bridxBad => .bridxBad (w.extractLsb' 16 16) (w.extractLsb' 0 12)
  | .sfidxRsv => .sfidxRsv (w.extractLsb' 12 20) (w.extractLsb' 0 10)
  | .version0 => .version0 (w.extractLsb' 21 11) (w.extractLsb' 0 19)
  | .version1 => .version1 (w.extractLsb' 21 11) (w.extractLsb' 0 19)
  | .version2 => .version2 (w.extractLsb' 21 11) (w.extractLsb' 0 19)
  | .version3 => .version3 (w.extractLsb' 21 11) (w.extractLsb' 0 19)
  | .layer0 => .layer0 (w.extractLsb' 19 13) (w.extractLsb' 0 17)
  | .layer1 => .layer1 (w.extractLsb' 19 13) (w.extractLsb' 0 17)
  | .layer2 => .layer2 (w.extractLsb' 19 13) (w.extractLsb' 0 17)
  | .layer3 => .layer3 (w.extractLsb' 19 13) (w.extractLsb' 0 17)
  | .prot0 => .prot0 (w.extractLsb' 17 15) (w.extractLsb' 0 16)
  | .prot1 => .prot1 (w.extractLsb' 17 15) (w.extractLsb' 0 16)
  | .chmode0 => .chmode0 (w.extractLsb' 8 24) (w.extractLsb' 0 6)
  | .chmode1 => .chmode1 (w.extractLsb' 8 24) (w.extractLsb' 0 6)
  | .chmode2 => .chmode2 (w.extractLsb' 8 24) (w.extractLsb' 0 6)
  | .chmode3 => .chmode3 (w.extractLsb' 8 24) (w.extractLsb' 0 6)
  | .emph0 => .emph0 (w.extractLsb' 2 30)
  | .emph1 => .emph1 (w.extractLsb' 2 30)
  | .emph2 => .emph2 (w.extractLsb' 2 30)
  | .emph3 => .emph3 (w.extractLsb' 2 30)
  | .syncOk => .syncOk (w.extractLsb' 0 21)

/-- Reads a word as a given row's instruction, or says why it is not one of the row's. -/
def decodeRow (r : Row) (w : Nat) : Except Reject Instr :=
  if 2 ^ r.spec.width ≤ w then .error .wordTooWide
  else if r.applies (BitVec.ofNat 32 w) then .ok (r.cut (BitVec.ofNat 32 w))
  else .error .outsideClass

/-! ## The encoder -/

/-- The header word an instruction presents: DECODE's octets (R90), or the class's fixed field
between the bits the class leaves free (R42 to R46, R48, R51, R53, R54, R91). The operations of the
combinational modules present none. -/
def headerWord : Instr → Option HeaderWord
  | .extract8 .. => none
  | .extract16 .. => none
  | .brlookup .. => none
  | .sflookup .. => none
  | .decode b0 b1 b2 b3 => some (b0 ++ b1 ++ b2 ++ b3)
  | .brselV1L1 hi lo => some (hi ++ 15#4 ++ lo)
  | .brselV1L2 hi lo => some (hi ++ 14#4 ++ lo)
  | .brselV1L3 hi lo => some (hi ++ 13#4 ++ lo)
  | .brselV2L1 hi lo => some (hi ++ 3#3 ++ lo)
  | .brselV2L2 hi lo => some (hi ++ 2#3 ++ lo)
  | .brselV2L3 hi lo => some (hi ++ 1#3 ++ lo)
  | .brselRsvV hi lo => some (hi ++ 1#2 ++ lo)
  | .brselRsvL hi lo => some (hi ++ 0#2 ++ lo)
  | .sfselV1 hi lo => some (hi ++ 3#2 ++ lo)
  | .sfselV2 hi lo => some (hi ++ 2#2 ++ lo)
  | .sfselV25 hi lo => some (hi ++ 0#2 ++ lo)
  | .sfselRsvV hi lo => some (hi ++ 1#2 ++ lo)
  | .bridxFree hi lo => some (hi ++ 0#4 ++ lo)
  | .bridxBad hi lo => some (hi ++ 15#4 ++ lo)
  | .sfidxRsv hi lo => some (hi ++ 3#2 ++ lo)
  | .version0 hi lo => some (hi ++ 0#2 ++ lo)
  | .version1 hi lo => some (hi ++ 1#2 ++ lo)
  | .version2 hi lo => some (hi ++ 2#2 ++ lo)
  | .version3 hi lo => some (hi ++ 3#2 ++ lo)
  | .layer0 hi lo => some (hi ++ 0#2 ++ lo)
  | .layer1 hi lo => some (hi ++ 1#2 ++ lo)
  | .layer2 hi lo => some (hi ++ 2#2 ++ lo)
  | .layer3 hi lo => some (hi ++ 3#2 ++ lo)
  | .prot0 hi lo => some (hi ++ 0#1 ++ lo)
  | .prot1 hi lo => some (hi ++ 1#1 ++ lo)
  | .chmode0 hi lo => some (hi ++ 0#2 ++ lo)
  | .chmode1 hi lo => some (hi ++ 1#2 ++ lo)
  | .chmode2 hi lo => some (hi ++ 2#2 ++ lo)
  | .chmode3 hi lo => some (hi ++ 3#2 ++ lo)
  | .emph0 hi => some (hi ++ 0#2)
  | .emph1 hi => some (hi ++ 1#2)
  | .emph2 hi => some (hi ++ 2#2)
  | .emph3 hi => some (hi ++ 3#2)
  | .syncOk lo => some (2047#11 ++ lo)

/-- How the host presents an instruction: on its module's operand port (R57), or, for DECODE and the
class rows, as a header at an edge with `RST = 0` and `IN_VALID = 1` (R107). -/
def present : Instr → Input
  | .extract8 v o w => .bitx8 (wselOfWidth w ++ o ++ v)
  | .extract16 v o w => .bitx16 (wselOfWidth w ++ o ++ v)
  | .brlookup v l i => .brtab (v ++ l ++ i)
  | .sflookup v i => .sftab (v ++ i)
  | .decode b0 b1 b2 b3 => .edge false true (b0 ++ b1 ++ b2 ++ b3)
  | .brselV1L1 hi lo => .edge false true (hi ++ 15#4 ++ lo)
  | .brselV1L2 hi lo => .edge false true (hi ++ 14#4 ++ lo)
  | .brselV1L3 hi lo => .edge false true (hi ++ 13#4 ++ lo)
  | .brselV2L1 hi lo => .edge false true (hi ++ 3#3 ++ lo)
  | .brselV2L2 hi lo => .edge false true (hi ++ 2#3 ++ lo)
  | .brselV2L3 hi lo => .edge false true (hi ++ 1#3 ++ lo)
  | .brselRsvV hi lo => .edge false true (hi ++ 1#2 ++ lo)
  | .brselRsvL hi lo => .edge false true (hi ++ 0#2 ++ lo)
  | .sfselV1 hi lo => .edge false true (hi ++ 3#2 ++ lo)
  | .sfselV2 hi lo => .edge false true (hi ++ 2#2 ++ lo)
  | .sfselV25 hi lo => .edge false true (hi ++ 0#2 ++ lo)
  | .sfselRsvV hi lo => .edge false true (hi ++ 1#2 ++ lo)
  | .bridxFree hi lo => .edge false true (hi ++ 0#4 ++ lo)
  | .bridxBad hi lo => .edge false true (hi ++ 15#4 ++ lo)
  | .sfidxRsv hi lo => .edge false true (hi ++ 3#2 ++ lo)
  | .version0 hi lo => .edge false true (hi ++ 0#2 ++ lo)
  | .version1 hi lo => .edge false true (hi ++ 1#2 ++ lo)
  | .version2 hi lo => .edge false true (hi ++ 2#2 ++ lo)
  | .version3 hi lo => .edge false true (hi ++ 3#2 ++ lo)
  | .layer0 hi lo => .edge false true (hi ++ 0#2 ++ lo)
  | .layer1 hi lo => .edge false true (hi ++ 1#2 ++ lo)
  | .layer2 hi lo => .edge false true (hi ++ 2#2 ++ lo)
  | .layer3 hi lo => .edge false true (hi ++ 3#2 ++ lo)
  | .prot0 hi lo => .edge false true (hi ++ 0#1 ++ lo)
  | .prot1 hi lo => .edge false true (hi ++ 1#1 ++ lo)
  | .chmode0 hi lo => .edge false true (hi ++ 0#2 ++ lo)
  | .chmode1 hi lo => .edge false true (hi ++ 1#2 ++ lo)
  | .chmode2 hi lo => .edge false true (hi ++ 2#2 ++ lo)
  | .chmode3 hi lo => .edge false true (hi ++ 3#2 ++ lo)
  | .emph0 hi => .edge false true (hi ++ 0#2)
  | .emph1 hi => .edge false true (hi ++ 1#2)
  | .emph2 hi => .edge false true (hi ++ 2#2)
  | .emph3 hi => .edge false true (hi ++ 3#2)
  | .syncOk lo => .edge false true (2047#11 ++ lo)

/-- The operand word a presented input carries, as a number (R57). -/
def Input.word : Input → Nat
  | .edge _ _ h => h.toNat
  | .bitx8 w => w.toNat
  | .bitx16 w => w.toNat
  | .brtab w => w.toNat
  | .sftab w => w.toNat

/-- The encoder: the operand word of an instruction, as a number in its row's width. -/
def encode (i : Instr) : Nat :=
  (present i).word

/-! ## Textual syntax (R62): one operation a line, numerals in decimal -/

/-- A width as the syntax writes it: the word `rest` or a decimal count (R62). -/
def widthText : Width → String
  | .rest => "rest"
  | .exact n => toString n

/-- The operation a presented input performs, as R62 writes it. An edge that accepts no header
performs none. -/
def inputText : Input → Option String
  | .edge true _ _ => none
  | .edge false false _ => none
  | .edge false true h =>
    some ("DECODE " ++ toString (wordOctet0 h).toNat ++ " " ++ toString (wordOctet1 h).toNat ++ " " ++
      toString (wordOctet2 h).toNat ++ " " ++ toString (wordOctet3 h).toNat)
  | .bitx8 w =>
    some ("EXTRACT8 " ++ toString (w.extractLsb' 0 8).toNat ++ ", " ++
      toString (w.extractLsb' 8 3).toNat ++ ", " ++ widthText (widthOfWsel (w.extractLsb' 11 5)))
  | .bitx16 w =>
    some ("EXTRACT16 " ++ toString (w.extractLsb' 0 16).toNat ++ ", " ++
      toString (w.extractLsb' 16 4).toNat ++ ", " ++ widthText (widthOfWsel (w.extractLsb' 20 5)))
  | .brtab w =>
    some ("BRLOOKUP " ++ toString (w.extractLsb' 6 2).toNat ++ ", " ++
      toString (w.extractLsb' 4 2).toNat ++ ", " ++ toString (w.extractLsb' 0 4).toNat)
  | .sftab w =>
    some ("SFLOOKUP " ++ toString (w.extractLsb' 2 2).toNat ++ ", " ++
      toString (w.extractLsb' 0 2).toNat)

/-! ## Words numbered as the opcode table numbers them -/

/-- The input that presents a word of a given number of bits. Operations have no select field (R57),
so the module is told from the width alone: 32 bits are a header, 24 or 25 are `EXTRACT16`'s,
16 are `EXTRACT8`'s, 8 are `BRLOOKUP`'s, 4 are `SFLOOKUP`'s (log entry 8). -/
def tableInput (nbits w : Nat) : Option Input :=
  if 2 ^ nbits ≤ w then none
  else if nbits = 32 then some (.edge false true (BitVec.ofNat 32 w))
  else if nbits = 24 ∨ nbits = 25 then some (.bitx16 (BitVec.ofNat 25 w))
  else if nbits = 16 then some (.bitx8 (BitVec.ofNat 16 w))
  else if nbits = 8 then some (.brtab (BitVec.ofNat 8 w))
  else if nbits = 4 then some (.sftab (BitVec.ofNat 4 w))
  else none

/-- The instruction the decoder reads from a word of the table. A header word reads as DECODE, which
every class row names (log entries 5 and 8). -/
def decodeTableWord (nbits w : Nat) : Option Instr :=
  match tableInput nbits w with
  | none => none
  | some e =>
    match decodeInput e with
    | .reset => none
    | .idle => none
    | .operation i => some i

end Sys2Proof
end

