-- ==== Sys2Proof/Machine/Operands.lean ====
section
/-! DEFINITION. Operand forms: the Bit Extractor's field, the assembly of the 16-bit word,
and the names of the 2-bit codes. All are total functions (R9). -/

namespace Sys2Proof.Machine

/-! ## The Bit Extractor (R63) -/

/-- The mask of `Exact(n)` on a value of `W` bits: `(2^n - 1) mod 2^W` (R63, R67, 90_conflicts.md C1). -/
def exactMask (W n : Nat) : BitVec W :=
  BitVec.ofNat W (2 ^ n - 1)

/-- `extractW(value, offset, w)`: a logical shift right, then nothing for `Rest` or the mask of
`Exact(n)`. A field that overruns the value is zero-filled (R63, R66, R67, R68). -/
def extractW {W : Nat} (value : BitVec W) (offset : Nat) : Width → BitVec W
  | .rest => value >>> offset
  | .exact n => (value >>> offset) &&& exactMask W n

/-- `extract8` of R8 and R64; the offset port has 3 bits, so it is below 8 (R69, D9). -/
def extract8 (value : Octet) (offset : BitVec 3) (w : Width) : Octet :=
  extractW value offset.toNat w

/-- `extract16` of R8 and R65; the offset port has 4 bits, so it is below 16 (R69, D9). -/
def extract16 (value : Word16) (offset : BitVec 4) (w : Width) : Word16 :=
  extractW value offset.toNat w

/-! ## Assembly (R29 to R31, R52) -/

/-- `w16 = byte0 || byte1`, byte0 the more significant half (R30). -/
def w16Of (b0 b1 : Octet) : Word16 :=
  b0 ++ b1

/-! ## Names of the codes. The block carries the raw codes (D18); the names select tables. -/

/-- Version code, in code order (R42). -/
def versionName (c : Code2) : Version :=
  if c = 0#2 then .mpeg25
  else if c = 1#2 then .reserved
  else if c = 2#2 then .mpeg2
  else .mpeg1

/-- Layer code, in code order: code 1 is Layer III, code 3 is Layer I (R43). -/
def layerName (c : Code2) : Layer :=
  if c = 0#2 then .reserved
  else if c = 1#2 then .layerIII
  else if c = 2#2 then .layerII
  else .layerI

/-- Channel mode code; listing order is code order (R48, D13). -/
def channelModeName (c : Code2) : ChannelMode :=
  if c = 0#2 then .stereo
  else if c = 1#2 then .jointStereo
  else if c = 2#2 then .dualChannel
  else .singleChannel

/-- Emphasis code; listing order is code order (R51, D13). -/
def emphasisName (c : Code2) : Emphasis :=
  if c = 0#2 then .none
  else if c = 1#2 then .us50_15
  else if c = 2#2 then .reserved
  else .ccitJ17

end Sys2Proof.Machine
end

