-- ==== Sys2Proof/Machine/Tables.lean ====
section
/-! DEFINITION. The Field Tables (41_field_tables.md): selection, the two read-only memories, the two
lookup functions, and the contents the machine runs with. The functions take the contents as an
argument, so a claim can hold for every configuration (D14). -/

namespace Sys2Proof.Machine

/-! ## Selection -/

/-- `br_select(version, layer)`: nine pairs select a table, seven none (R72). -/
def brSelect (version layer : Code2) : Option BrTable :=
  match versionName version, layerName layer with
  | .mpeg1, .layerI => some .brV1L1
  | .mpeg1, .layerII => some .brV1L2
  | .mpeg1, .layerIII => some .brV1L3
  | .mpeg2, .layerI | .mpeg25, .layerI => some .brV2L1
  | .mpeg2, .layerII | .mpeg2, .layerIII
  | .mpeg25, .layerII | .mpeg25, .layerIII => some .brV2L23
  | .mpeg25, .reserved | .mpeg2, .reserved | .mpeg1, .reserved => none
  | .reserved, .reserved | .reserved, .layerIII | .reserved, .layerII | .reserved, .layerI => none

/-- `sf_select(version)`: by version alone; MPEG-2 and MPEG-2.5 do not share (R83). -/
def sfSelect (version : Code2) : Option SfTable :=
  match versionName version with
  | .mpeg1 => some .sfV1
  | .mpeg2 => some .sfV2
  | .mpeg25 => some .sfV25
  | .reserved => none

/-! ## The two read-only memories (R25 to R28, R88) -/

/-- The contents of a bit-rate table (R26). -/
def brRom (c : Config) : BrTable → Vector Nat 14
  | .brV1L1 => c.brV1L1
  | .brV1L2 => c.brV1L2
  | .brV1L3 => c.brV1L3
  | .brV2L1 => c.brV2L1
  | .brV2L23 => c.brV2L23

/-- The entries 0, 1, 2 of a sampling-frequency table (R27). -/
def sfRom (c : Config) : SfTable → Vector Nat 3
  | .sfV1 => c.sfV1
  | .sfV2 => c.sfV2
  | .sfV25 => c.sfV25

/-- `RomRead(T, index)` of the bit-rate memory, `table[index-1]`; the bounds test gives -1 (R26, R28). -/
def brRead (c : Config) (t : BrTable) (index : Nat) : Int :=
  match (brRom c t)[index - 1]? with
  | some n => (n : Int)
  | none => -1

/-- `RomRead(T, index)` of the sampling-frequency memory: entry 3 is -1 in every table, and the
bounds test gives -1 beyond it (R27, R28, R82). -/
def sfRead (c : Config) (t : SfTable) (index : Nat) : Int :=
  match (sfRom c t)[index]? with
  | some n => (n : Int)
  | none => -1

/-! ## The lookups. The index is a natural number, wider than the port, so the source's bounds tests
are part of the function (R28, D20). -/

/-- The bit rate once the table is selected: the tests for index 0 and 15 come before the selection
matters (R73, R74). -/
def bitRateFrom (c : Config) (t : Option BrTable) (index : Nat) : Int :=
  if index = 0 then 0
  else if 15 ≤ index then -1
  else
    match t with
    | none => -1
    | some t => brRead c t index

/-- `bit_rate(version, layer, index)` (R73). -/
def bitRate (c : Config) (version layer : Code2) (index : Nat) : Int :=
  bitRateFrom c (brSelect version layer) index

/-- The sampling frequency once the table is selected (R82). -/
def samplingFrequencyFrom (c : Config) (t : Option SfTable) (index : Nat) : Int :=
  match t with
  | none => -1
  | some t => if 4 ≤ index then -1 else sfRead c t index

/-- `sampling_frequency(version, index)` (R82). -/
def samplingFrequency (c : Config) (version : Code2) (index : Nat) : Int :=
  samplingFrequencyFrom c (sfSelect version) index

/-! ## Contents. Only `brV1L3` index 9 and `sfV1` index 0 are from the source; the rest are the
spec's defaults from general knowledge (log entry 4). -/

/-- MPEG-1, Layer I (R76). PRESUMED, unsafe: log entry 4. -/
def tableBrV1L1 : Vector Nat 14 :=
  #v[32, 64, 96, 128, 160, 192, 224, 256, 288, 320, 352, 384, 416, 448]

/-- MPEG-1, Layer II (R77). PRESUMED, unsafe: log entry 4. -/
def tableBrV1L2 : Vector Nat 14 :=
  #v[32, 48, 56, 64, 80, 96, 112, 128, 160, 192, 224, 256, 320, 384]

/-- MPEG-1, Layer III (R78); index 9, 128, is the source's. PRESUMED, unsafe: log entry 4. -/
def tableBrV1L3 : Vector Nat 14 :=
  #v[32, 40, 48, 56, 64, 80, 96, 112, 128, 160, 192, 224, 256, 320]

/-- MPEG-2 and MPEG-2.5, Layer I: one table, two keys (R79). PRESUMED, unsafe: log entry 4. -/
def tableBrV2L1 : Vector Nat 14 :=
  #v[32, 48, 56, 64, 80, 96, 112, 128, 144, 160, 176, 192, 224, 256]

/-- MPEG-2 and MPEG-2.5, Layers II and III: one table, four keys (R80). PRESUMED, unsafe: log entry 4. -/
def tableBrV2L23 : Vector Nat 14 :=
  #v[8, 16, 24, 32, 40, 48, 56, 64, 80, 96, 112, 128, 144, 160]

/-- MPEG-1 (R84); index 0, 44100, is the source's. PRESUMED, unsafe: log entry 4. -/
def tableSfV1 : Vector Nat 3 := #v[44100, 48000, 32000]

/-- MPEG-2 (R85). PRESUMED, unsafe: log entry 4. -/
def tableSfV2 : Vector Nat 3 := #v[22050, 24000, 16000]

/-- MPEG-2.5 (R86). PRESUMED, unsafe: log entry 4. -/
def tableSfV25 : Vector Nat 3 := #v[11025, 12000, 8000]

/-- The configuration the machine runs with: the spec's defaults (R5, D14). -/
def tables : Config where
  brV1L1 := tableBrV1L1
  brV1L2 := tableBrV1L2
  brV1L3 := tableBrV1L3
  brV2L1 := tableBrV2L1
  brV2L23 := tableBrV2L23
  sfV1 := tableSfV1
  sfV2 := tableSfV2
  sfV25 := tableSfV25

/-- What the spec asks of any configuration: positive entries, and the two entries the source fixes
(R26, R27, D14). -/
def configOk (c : Config) : Bool :=
  [c.brV1L1, c.brV1L2, c.brV1L3, c.brV2L1, c.brV2L23].all (fun t => t.toList.all (0 < ·)) &&
  [c.sfV1, c.sfV2, c.sfV25].all (fun t => t.toList.all (0 < ·)) &&
  c.brV1L3[8] == 128 && c.sfV1[0] == 44100

end Sys2Proof.Machine
end

