-- ==== Sys2Proof/Machine/State.lean ====
section
/-! DEFINITION. The state of HDRDEC: the wrapper's registers, the result ports of the combinational
modules, and what the host presents next. There is no memory, no program counter and no control
register (R18 to R21, R25). -/

namespace Sys2Proof.Machine

/-- The FrameHeader, the thirteen fields of R14. The codes are raw (D18); the two integers are
mathematical integers whose sentinels 0 and -1 are in band (R10, R87). -/
structure FrameHeader where
  frameSync : BitVec 11
  version : Code2
  layer : Code2
  isProtected : Bool
  bitRateKbps : Int
  samplingFrequencyHz : Int
  padding : Bool
  isPrivate : Bool
  channelMode : Code2
  modeExtension : Code2
  isCopyrighted : Bool
  isOriginal : Bool
  emphasis : Code2
  deriving DecidableEq, Repr

/-- The sub-ports of `OUT` with their widths, 90 bits in all (R14, R16). -/
structure OutPorts where
  frameSync : BitVec 11
  version : BitVec 2
  layer : BitVec 2
  isProtected : BitVec 1
  bitRateKbps : BitVec 32
  samplingFrequencyHz : BitVec 32
  padding : BitVec 1
  isPrivate : BitVec 1
  channelMode : BitVec 2
  modeExtension : BitVec 2
  isCopyrighted : BitVec 1
  isOriginal : BitVec 1
  emphasis : BitVec 2
  deriving DecidableEq, Repr

/-- Everything the spec gives the machine, and the host's schedule. -/
structure State where
  /-- The register `OUT_VALID` (R17). -/
  outValid : Bool
  /-- The register bank `OUT`; `none` is the spec's own state "holds no value" (R17, R24, D23). -/
  out : Option FrameHeader
  /-- The result port of `BITX8` (R16, R57; log entry 3). -/
  bitx8 : BitVec 8
  /-- The result port of `BITX16` (R16, R57; log entry 3). -/
  bitx16 : BitVec 16
  /-- The result port of `BRTAB` (R16, R57, R87; log entry 3). -/
  brtab : Int
  /-- The result port of `SFTAB` (R16, R57, R87; log entry 3). -/
  sftab : Int
  /-- The model's own field: what the host presents next, oldest first (R13, R19, R122; log entry 1). -/
  inputs : List Input
  deriving DecidableEq, Repr

/-- Why something stops. No operation of the block raises one (R9, R109, R124). -/
inductive Fault where
  /-- A host read of `OUT` before any header was loaded since reset, "a fault of the reader" and
  "the one fault in the whole spec" (R24, R124, R126, R136, D23). Raised by `readOut`, by no step. Safe: the model stops where the spec says the reader faults. -/
  | outNotLoaded
  deriving DecidableEq, Repr

/-- Why an instruction has no meaning. The block refuses nothing (R124). -/
inductive Refusal where
  /-- An instruction the model has not reached. Raised by no arm of `exec`: every instruction has its
  meaning. It would be safe. -/
  | notModelled (mnemonic : String)
  deriving DecidableEq, Repr

/-- The machine right after a reset edge: `OUT_VALID = 0`, `OUT` holds no value (R24, R126). The
result ports are those of all-zero operand words (DESIGN CHOICE, log entry 3), and the host presents
nothing (DESIGN CHOICE, log entry 1). -/
def State.reset : State where
  outValid := false
  out := none
  bitx8 := 0#8
  bitx16 := 0#16
  brtab := 0
  sftab := samplingFrequency tables 0#2 0
  inputs := []

end Sys2Proof.Machine
end

