-- ==== Sys2Proof/Machine/Flags.lean ====
section
/-! DEFINITION. The one status bit, the port encodings, and the in-band conditions. The block has no
condition codes: what another design would flag is reported in band (R20, R110). -/

namespace Sys2Proof.Machine

/-- The one status bit, `OUT_VALID`: whether `OUT` was loaded at the last edge (R17, R20). -/
def setOutValid (b : Bool) (s : State) : State :=
  { s with outValid := b }

/-! ## Values on the ports (R14, R87) -/

/-- An integer on its 32-bit two's complement port (R87, D7). -/
def intPort (x : Int) : BitVec 32 :=
  BitVec.ofInt 32 x

/-- A boolean on its 1-bit port, 1 = true (R14). -/
def boolPort (b : Bool) : BitVec 1 :=
  BitVec.ofBool b

/-- The sub-ports of `OUT` for a FrameHeader (R14, R16). -/
def outPorts (f : FrameHeader) : OutPorts where
  frameSync := f.frameSync
  version := f.version
  layer := f.layer
  isProtected := boolPort f.isProtected
  bitRateKbps := intPort f.bitRateKbps
  samplingFrequencyHz := intPort f.samplingFrequencyHz
  padding := boolPort f.padding
  isPrivate := boolPort f.isPrivate
  channelMode := f.channelMode
  modeExtension := f.modeExtension
  isCopyrighted := boolPort f.isCopyrighted
  isOriginal := boolPort f.isOriginal
  emphasis := f.emphasis

/-! ## The in-band conditions S1 to S8 (R110), "not failures" -/

/-- The conditions of R110, in its order. -/
inductive Condition where
  /-- S1, free-format bit rate. -/
  | freeFormat
  /-- S2, bad bit-rate index. -/
  | badBitRateIndex
  /-- S3, unsupported version-layer combination. -/
  | unsupportedPair
  /-- S4, reserved sampling-frequency index. -/
  | reservedSamplingIndex
  /-- S5, reserved version, sampling frequency. -/
  | reservedVersionSampling
  /-- S6, reserved version. -/
  | reservedVersion
  /-- S7, reserved layer. -/
  | reservedLayer
  /-- S8, reserved emphasis. -/
  | reservedEmphasis
  deriving DecidableEq, Repr

/-- The bits of `H` that cause a condition (R110). -/
def conditionCause (k : Condition) (h : HeaderWord) : Bool :=
  match k with
  | .freeFormat => h.extractLsb' 12 4 == 0#4
  | .badBitRateIndex => h.extractLsb' 12 4 == 15#4
  | .unsupportedPair =>
    h.extractLsb' 12 4 != 0#4 && h.extractLsb' 12 4 != 15#4 &&
      (h.extractLsb' 19 2 == 1#2 || h.extractLsb' 17 2 == 0#2)
  | .reservedSamplingIndex => h.extractLsb' 10 2 == 3#2
  | .reservedVersionSampling => h.extractLsb' 19 2 == 1#2
  | .reservedVersion => h.extractLsb' 19 2 == 1#2
  | .reservedLayer => h.extractLsb' 17 2 == 0#2
  | .reservedEmphasis => h.extractLsb' 0 2 == 2#2

/-- The value that reports a condition in the record (R110). -/
def conditionReport (k : Condition) (f : FrameHeader) : Bool :=
  match k with
  | .freeFormat => f.bitRateKbps == 0
  | .badBitRateIndex => f.bitRateKbps == -1
  | .unsupportedPair => f.bitRateKbps == -1
  | .reservedSamplingIndex => f.samplingFrequencyHz == -1
  | .reservedVersionSampling => f.samplingFrequencyHz == -1
  | .reservedVersion => f.version == 1#2
  | .reservedLayer => f.layer == 0#2
  | .reservedEmphasis => f.emphasis == 2#2

end Sys2Proof.Machine
end

