-- ==== Sys2Proof/Machine/Ops.lean ====
section
/-! DEFINITION. The named operations over the registers and ports, and taking the next input.
TAKING AN EXCEPTION AND RETURNING FROM ONE: the block has neither. "There is none: no state is saved,
no mode changes, no mask changes, no stack, no vector table" (R116); "There is no return-from-trap
operation" (R117); no interrupts (R114). No operation over memory: there is none (R25). -/

namespace Sys2Proof.Machine

/-- A rising edge with `RST = 0` and `IN_VALID = 1`: `OUT_VALID <- 1`, `OUT <- f` (R107). -/
def loadOut (f : FrameHeader) (s : State) : State :=
  setOutValid true { s with out := some f }

/-- A rising edge with `RST = 1`: `OUT_VALID <- 0`, `OUT` holds no value. The combinational modules
and the tables have no reset (R24, R107, R125, R126, R127). -/
def resetEdge (s : State) : State :=
  setOutValid false { s with out := none }

/-- A rising edge with `RST = 0` and `IN_VALID = 0`: `OUT_VALID <- 0`, `OUT` unchanged (R107). -/
def idleEdge (s : State) : State :=
  setOutValid false s

/-- The result port of `BITX8` follows its operands (R16, R129). -/
def driveBitx8 (r : BitVec 8) (s : State) : State :=
  { s with bitx8 := r }

/-- The result port of `BITX16` follows its operands (R16, R129). -/
def driveBitx16 (r : BitVec 16) (s : State) : State :=
  { s with bitx16 := r }

/-- The result port of `BRTAB` follows its operands (R16, R129). -/
def driveBrtab (r : Int) (s : State) : State :=
  { s with brtab := r }

/-- The result port of `SFTAB` follows its operands (R16, R129). -/
def driveSftab (r : Int) (s : State) : State :=
  { s with sftab := r }

/-- A host read of `OUT`. Before a header is loaded since reset it is a fault of the reader, "not as
zero and not as the pre-reset contents"; after that it answers whatever `OUT_VALID` says (R24, R124, R126, R136).
No instruction and no step reads `OUT` (R18). The fault is the spec's; that a read is one function over
the whole record is the model's form (DESIGN CHOICE, log entry 2). -/
def readOut (s : State) : Except Fault FrameHeader :=
  match s.out with
  | none => .error .outNotLoaded
  | some f => .ok f

/-- Takes the next thing the host presents. When it presents nothing more, the clock goes on with
`RST = 0` and `IN_VALID = 0` (DESIGN CHOICE, log entry 1). -/
def nextEvent (s : State) : Event × State :=
  match s.inputs with
  | [] => (.idle, s)
  | e :: rest => (decodeInput e, { s with inputs := rest })

end Sys2Proof.Machine
end

