-- ==== Sys2Proof/Machine/BitExtractor.lean ====
section
/-! DEFINITION. The meanings of `EXTRACT8` and `EXTRACT16` (40_bit_extractor.md). They are pure: only
the module's result port shows them (R11, R18). -/

namespace Sys2Proof.Machine

/-- `EXTRACT8` (R64): no flag, no exception, no register. -/
def execExtract8 (value : Octet) (offset : BitVec 3) (width : Width) (s : State) :
    Host.Outcome State Fault Refusal :=
  .next (driveBitx8 (extract8 value offset width) s)

/-- `EXTRACT16` (R65): no flag, no exception, no register. -/
def execExtract16 (value : Word16) (offset : BitVec 4) (width : Width) (s : State) :
    Host.Outcome State Fault Refusal :=
  .next (driveBitx16 (extract16 value offset width) s)

end Sys2Proof.Machine
end

