-- ==== Sys2Proof/Machine/HeaderDecoder.lean ====
section
/-! DEFINITION. The Header Decoder and the meaning of `DECODE` through the registered wrapper
(42_header_decoder.md). -/

namespace Sys2Proof.Machine

/-- `decode(b0, b1, b2, b3)`, sentence by sentence as R90 gives it: extract, look up, invert the
protection bit, assemble. It checks nothing (R106). -/
def decodeHeader (c : Config) (b0 b1 b2 b3 : Octet) : FrameHeader :=
  let w16 := w16Of b0 b1
  let sync := extract16 w16 5#4 .rest
  let ver := extract16 w16 3#4 (.exact 2)
  let lay := extract16 w16 1#4 (.exact 2)
  let protBit := extract16 w16 0#4 (.exact 1)
  let bri := extract8 b2 4#3 .rest
  let sfi := extract8 b2 2#3 (.exact 2)
  let pad := extract8 b2 1#3 (.exact 1)
  let priv := extract8 b2 0#3 (.exact 1)
  let cm := extract8 b3 6#3 .rest
  let mext := extract8 b3 4#3 (.exact 2)
  let copy := extract8 b3 3#3 (.exact 1)
  let orig := extract8 b3 2#3 (.exact 1)
  let emph := extract8 b3 0#3 (.exact 2)
  { frameSync := sync.setWidth 11
    version := ver.setWidth 2
    layer := lay.setWidth 2
    isProtected := protBit == 0#16
    bitRateKbps := bitRate c (ver.setWidth 2) (lay.setWidth 2) bri.toNat
    samplingFrequencyHz := samplingFrequency c (ver.setWidth 2) sfi.toNat
    padding := pad == 1#8
    isPrivate := priv == 1#8
    channelMode := cm.setWidth 2
    modeExtension := mext.setWidth 2
    isCopyrighted := copy == 1#8
    isOriginal := orig == 1#8
    emphasis := emph.setWidth 2 }

/-- `decode` of a header word: its four octets in stream order (R31, R107). -/
def decodeWord (c : Config) (h : HeaderWord) : FrameHeader :=
  decodeHeader c (wordOctet0 h) (wordOctet1 h) (wordOctet2 h) (wordOctet3 h)

/-- The closed form of R104: every field read off the header word, with no extractor. -/
def closedForm (c : Config) (h : HeaderWord) : FrameHeader where
  frameSync := h.extractLsb' 21 11
  version := h.extractLsb' 19 2
  layer := h.extractLsb' 17 2
  isProtected := !h.getLsbD 16
  bitRateKbps := bitRate c (h.extractLsb' 19 2) (h.extractLsb' 17 2) (h.extractLsb' 12 4).toNat
  samplingFrequencyHz := samplingFrequency c (h.extractLsb' 19 2) (h.extractLsb' 10 2).toNat
  padding := h.getLsbD 9
  isPrivate := h.getLsbD 8
  channelMode := h.extractLsb' 6 2
  modeExtension := h.extractLsb' 4 2
  isCopyrighted := h.getLsbD 3
  isOriginal := h.getLsbD 2
  emphasis := h.extractLsb' 0 2

/-- `DECODE` (R90) at an edge with `RST = 0` and `IN_VALID = 1` (R107). -/
def execDecode (b0 b1 b2 b3 : Octet) (s : State) : Host.Outcome State Fault Refusal :=
  .next (loadOut (decodeHeader tables b0 b1 b2 b3) s)

end Sys2Proof.Machine
end

