-- ==== Sys2Proof/Machine/ClassRows.lean ====
section
/-! DEFINITION. The meanings of the class rows (30_encoding.md, head). A header of a class is
presented like any other, and every field comes out as DECODE gives it; the row claims one field,
and that field is written here as the row claims it. That DECODE agrees is a statement about the
model (log entry 5). -/

namespace Sys2Proof.Machine

/-! ## Bit-rate table selection (R53). The index is `H[15:12]`; indices 0 and 15 read no table (R74). -/

/-- `BRSEL.V1L1`: `bit_rate_kbps` comes from `BR_V1_L1` (R53). -/
def execBrselV1L1 (hi : BitVec 11) (lo : BitVec 17) (s : State) : Host.Outcome State Fault Refusal :=
  .next (loadOut { decodeWord tables (hi ++ 15#4 ++ lo) with
    bitRateKbps := bitRateFrom tables (some .brV1L1) (lo.extractLsb' 12 4).toNat } s)

/-- `BRSEL.V1L2`: `bit_rate_kbps` comes from `BR_V1_L2` (R53). -/
def execBrselV1L2 (hi : BitVec 11) (lo : BitVec 17) (s : State) : Host.Outcome State Fault Refusal :=
  .next (loadOut { decodeWord tables (hi ++ 14#4 ++ lo) with
    bitRateKbps := bitRateFrom tables (some .brV1L2) (lo.extractLsb' 12 4).toNat } s)

/-- `BRSEL.V1L3`: `bit_rate_kbps` comes from `BR_V1_L3` (R53). -/
def execBrselV1L3 (hi : BitVec 11) (lo : BitVec 17) (s : State) : Host.Outcome State Fault Refusal :=
  .next (loadOut { decodeWord tables (hi ++ 13#4 ++ lo) with
    bitRateKbps := bitRateFrom tables (some .brV1L3) (lo.extractLsb' 12 4).toNat } s)

/-- `BRSEL.V2L1`: `bit_rate_kbps` comes from `BR_V2_L1` (R53). -/
def execBrselV2L1 (hi : BitVec 12) (lo : BitVec 17) (s : State) : Host.Outcome State Fault Refusal :=
  .next (loadOut { decodeWord tables (hi ++ 3#3 ++ lo) with
    bitRateKbps := bitRateFrom tables (some .brV2L1) (lo.extractLsb' 12 4).toNat } s)

/-- `BRSEL.V2L2`: `bit_rate_kbps` comes from `BR_V2_L23` (R53). -/
def execBrselV2L2 (hi : BitVec 12) (lo : BitVec 17) (s : State) : Host.Outcome State Fault Refusal :=
  .next (loadOut { decodeWord tables (hi ++ 2#3 ++ lo) with
    bitRateKbps := bitRateFrom tables (some .brV2L23) (lo.extractLsb' 12 4).toNat } s)

/-- `BRSEL.V2L3`: `bit_rate_kbps` comes from `BR_V2_L23` (R53). -/
def execBrselV2L3 (hi : BitVec 12) (lo : BitVec 17) (s : State) : Host.Outcome State Fault Refusal :=
  .next (loadOut { decodeWord tables (hi ++ 1#3 ++ lo) with
    bitRateKbps := bitRateFrom tables (some .brV2L23) (lo.extractLsb' 12 4).toNat } s)

/-- `BRSEL.RSVV`: no table: 0 for index 0, else -1 (R53, R73, R74). -/
def execBrselRsvV (hi : BitVec 11) (lo : BitVec 19) (s : State) : Host.Outcome State Fault Refusal :=
  .next (loadOut { decodeWord tables (hi ++ 1#2 ++ lo) with
    bitRateKbps := bitRateFrom tables none (lo.extractLsb' 12 4).toNat } s)

/-- `BRSEL.RSVL`: no table: 0 for index 0, else -1 (R53, R73, R74). -/
def execBrselRsvL (hi : BitVec 13) (lo : BitVec 17) (s : State) : Host.Outcome State Fault Refusal :=
  .next (loadOut { decodeWord tables (hi ++ 0#2 ++ lo) with
    bitRateKbps := bitRateFrom tables none (lo.extractLsb' 12 4).toNat } s)

/-! ## Sampling-frequency table selection (R54). The index is `H[11:10]`. -/

/-- `SFSEL.V1`: `sampling_frequency_hz` comes from `SF_V1` (R54). -/
def execSfselV1 (hi : BitVec 11) (lo : BitVec 19) (s : State) : Host.Outcome State Fault Refusal :=
  .next (loadOut { decodeWord tables (hi ++ 3#2 ++ lo) with
    samplingFrequencyHz := samplingFrequencyFrom tables (some .sfV1) (lo.extractLsb' 10 2).toNat } s)

/-- `SFSEL.V2`: `sampling_frequency_hz` comes from `SF_V2` (R54). -/
def execSfselV2 (hi : BitVec 11) (lo : BitVec 19) (s : State) : Host.Outcome State Fault Refusal :=
  .next (loadOut { decodeWord tables (hi ++ 2#2 ++ lo) with
    samplingFrequencyHz := samplingFrequencyFrom tables (some .sfV2) (lo.extractLsb' 10 2).toNat } s)

/-- `SFSEL.V25`: `sampling_frequency_hz` comes from `SF_V25` (R54). -/
def execSfselV25 (hi : BitVec 11) (lo : BitVec 19) (s : State) : Host.Outcome State Fault Refusal :=
  .next (loadOut { decodeWord tables (hi ++ 0#2 ++ lo) with
    samplingFrequencyHz := samplingFrequencyFrom tables (some .sfV25) (lo.extractLsb' 10 2).toNat } s)

/-- `SFSEL.RSVV`: `sampling_frequency_hz = -1` for every index (R54, R82). -/
def execSfselRsvV (hi : BitVec 11) (lo : BitVec 19) (s : State) : Host.Outcome State Fault Refusal :=
  .next (loadOut { decodeWord tables (hi ++ 1#2 ++ lo) with
    samplingFrequencyHz := -1 } s)

/-! ## Index classes (R45, R46) -/

/-- `BRIDX.FREE`: free format, `bit_rate_kbps = 0` for every version and layer (R45, R73). -/
def execBridxFree (hi : BitVec 16) (lo : BitVec 12) (s : State) : Host.Outcome State Fault Refusal :=
  .next (loadOut { decodeWord tables (hi ++ 0#4 ++ lo) with
    bitRateKbps := 0 } s)

/-- `BRIDX.BAD`: `bit_rate_kbps = -1` for every version and layer (R45, R73). -/
def execBridxBad (hi : BitVec 16) (lo : BitVec 12) (s : State) : Host.Outcome State Fault Refusal :=
  .next (loadOut { decodeWord tables (hi ++ 15#4 ++ lo) with
    bitRateKbps := -1 } s)

/-- `SFIDX.RSV`: `sampling_frequency_hz = -1` for every version (R46, R82). -/
def execSfidxRsv (hi : BitVec 20) (lo : BitVec 10) (s : State) : Host.Outcome State Fault Refusal :=
  .next (loadOut { decodeWord tables (hi ++ 3#2 ++ lo) with
    samplingFrequencyHz := -1 } s)

/-! ## Version codes (R42, R92) -/

/-- `VERSION.0`: `version = 0`, MPEG-2.5 (R42, R92). -/
def execVersion0 (hi : BitVec 11) (lo : BitVec 19) (s : State) : Host.Outcome State Fault Refusal :=
  .next (loadOut { decodeWord tables (hi ++ 0#2 ++ lo) with
    version := 0#2 } s)

/-- `VERSION.1`: `version = 1`, Reserved (R42, R92). -/
def execVersion1 (hi : BitVec 11) (lo : BitVec 19) (s : State) : Host.Outcome State Fault Refusal :=
  .next (loadOut { decodeWord tables (hi ++ 1#2 ++ lo) with
    version := 1#2 } s)

/-- `VERSION.2`: `version = 2`, MPEG-2 (R42, R92). -/
def execVersion2 (hi : BitVec 11) (lo : BitVec 19) (s : State) : Host.Outcome State Fault Refusal :=
  .next (loadOut { decodeWord tables (hi ++ 2#2 ++ lo) with
    version := 2#2 } s)

/-- `VERSION.3`: `version = 3`, MPEG-1 (R42, R92). -/
def execVersion3 (hi : BitVec 11) (lo : BitVec 19) (s : State) : Host.Outcome State Fault Refusal :=
  .next (loadOut { decodeWord tables (hi ++ 3#2 ++ lo) with
    version := 3#2 } s)

/-! ## Layer codes (R43, R93) -/

/-- `LAYER.0`: `layer = 0`, Reserved (R43, R93). -/
def execLayer0 (hi : BitVec 13) (lo : BitVec 17) (s : State) : Host.Outcome State Fault Refusal :=
  .next (loadOut { decodeWord tables (hi ++ 0#2 ++ lo) with
    layer := 0#2 } s)

/-- `LAYER.1`: `layer = 1`, Layer III (R43, R93). -/
def execLayer1 (hi : BitVec 13) (lo : BitVec 17) (s : State) : Host.Outcome State Fault Refusal :=
  .next (loadOut { decodeWord tables (hi ++ 1#2 ++ lo) with
    layer := 1#2 } s)

/-- `LAYER.2`: `layer = 2`, Layer II (R43, R93). -/
def execLayer2 (hi : BitVec 13) (lo : BitVec 17) (s : State) : Host.Outcome State Fault Refusal :=
  .next (loadOut { decodeWord tables (hi ++ 2#2 ++ lo) with
    layer := 2#2 } s)

/-- `LAYER.3`: `layer = 3`, Layer I (R43, R93). -/
def execLayer3 (hi : BitVec 13) (lo : BitVec 17) (s : State) : Host.Outcome State Fault Refusal :=
  .next (loadOut { decodeWord tables (hi ++ 3#2 ++ lo) with
    layer := 3#2 } s)

/-! ## The protection bit, inverted (R44, R94) -/

/-- `PROT.0`: `protected = true` (R44, R94). -/
def execProt0 (hi : BitVec 15) (lo : BitVec 16) (s : State) : Host.Outcome State Fault Refusal :=
  .next (loadOut { decodeWord tables (hi ++ 0#1 ++ lo) with
    isProtected := true } s)

/-- `PROT.1`: `protected = false` (R44, R94). -/
def execProt1 (hi : BitVec 15) (lo : BitVec 16) (s : State) : Host.Outcome State Fault Refusal :=
  .next (loadOut { decodeWord tables (hi ++ 1#1 ++ lo) with
    isProtected := false } s)

/-! ## Channel mode codes (R48, R99) -/

/-- `CHMODE.0`: `channel_mode = 0`, Stereo (R48, R99). -/
def execChmode0 (hi : BitVec 24) (lo : BitVec 6) (s : State) : Host.Outcome State Fault Refusal :=
  .next (loadOut { decodeWord tables (hi ++ 0#2 ++ lo) with
    channelMode := 0#2 } s)

/-- `CHMODE.1`: `channel_mode = 1`, Joint Stereo (R48, R99). -/
def execChmode1 (hi : BitVec 24) (lo : BitVec 6) (s : State) : Host.Outcome State Fault Refusal :=
  .next (loadOut { decodeWord tables (hi ++ 1#2 ++ lo) with
    channelMode := 1#2 } s)

/-- `CHMODE.2`: `channel_mode = 2`, Dual Channel (R48, R99). -/
def execChmode2 (hi : BitVec 24) (lo : BitVec 6) (s : State) : Host.Outcome State Fault Refusal :=
  .next (loadOut { decodeWord tables (hi ++ 2#2 ++ lo) with
    channelMode := 2#2 } s)

/-- `CHMODE.3`: `channel_mode = 3`, Single Channel (R48, R99). -/
def execChmode3 (hi : BitVec 24) (lo : BitVec 6) (s : State) : Host.Outcome State Fault Refusal :=
  .next (loadOut { decodeWord tables (hi ++ 3#2 ++ lo) with
    channelMode := 3#2 } s)

/-! ## Emphasis codes (R51, R103) -/

/-- `EMPH.0`: `emphasis = 0`, None (R51, R103). -/
def execEmph0 (hi : BitVec 30) (s : State) : Host.Outcome State Fault Refusal :=
  .next (loadOut { decodeWord tables (hi ++ 0#2) with
    emphasis := 0#2 } s)

/-- `EMPH.1`: `emphasis = 1`, 50/15 ms (R51, R103). -/
def execEmph1 (hi : BitVec 30) (s : State) : Host.Outcome State Fault Refusal :=
  .next (loadOut { decodeWord tables (hi ++ 1#2) with
    emphasis := 1#2 } s)

/-- `EMPH.2`: `emphasis = 2`, Reserved (R51, R103). -/
def execEmph2 (hi : BitVec 30) (s : State) : Host.Outcome State Fault Refusal :=
  .next (loadOut { decodeWord tables (hi ++ 2#2) with
    emphasis := 2#2 } s)

/-- `EMPH.3`: `emphasis = 3`, CCIT J.17 (R51, R103). -/
def execEmph3 (hi : BitVec 30) (s : State) : Host.Outcome State Fault Refusal :=
  .next (loadOut { decodeWord tables (hi ++ 3#2) with
    emphasis := 3#2 } s)

/-! ## The frame sync (R91) -/

/-- `SYNC.OK`: `frame_sync = 0x7FF`; it changes no other field (R91, R106). -/
def execSyncOk (lo : BitVec 21) (s : State) : Host.Outcome State Fault Refusal :=
  .next (loadOut { decodeWord tables (2047#11 ++ lo) with
    frameSync := 0x7FF#11 } s)

end Sys2Proof.Machine
end

