-- ==== Sys2Proof/Machine/FieldTables.lean ====
section
/-! DEFINITION. The meanings of `BRLOOKUP` and `SFLOOKUP` (41_field_tables.md). They are pure: only
the module's result port shows them (R11, R18). -/

namespace Sys2Proof.Machine

/-- `BRLOOKUP` (R73): 0 and -1 are sentinels, not failures (R110). -/
def execBrlookup (version layer : Code2) (index : BitVec 4) (s : State) :
    Host.Outcome State Fault Refusal :=
  .next (driveBrtab (bitRate tables version layer index.toNat) s)

/-- `SFLOOKUP` (R82): -1 is a sentinel, not a failure (R110). -/
def execSflookup (version index : Code2) (s : State) : Host.Outcome State Fault Refusal :=
  .next (driveSftab (samplingFrequency tables version index.toNat) s)

end Sys2Proof.Machine
end

