-- ==== Sys2Proof/Machine/Dispatch.lean ====
section
/-! DEFINITION. One arm per instruction: each calls its meaning. -/

namespace Sys2Proof.Machine

def exec (i : Instr) (s : State) : Host.Outcome State Fault Refusal :=
  match i with
  | .extract8 value offset width => Sys2Proof.Machine.execExtract8 value offset width s
  | .extract16 value offset width => Sys2Proof.Machine.execExtract16 value offset width s
  | .brlookup version layer index => Sys2Proof.Machine.execBrlookup version layer index s
  | .sflookup version index => Sys2Proof.Machine.execSflookup version index s
  | .decode b0 b1 b2 b3 => Sys2Proof.Machine.execDecode b0 b1 b2 b3 s
  | .brselV1L1 hi lo => Sys2Proof.Machine.execBrselV1L1 hi lo s
  | .brselV1L2 hi lo => Sys2Proof.Machine.execBrselV1L2 hi lo s
  | .brselV1L3 hi lo => Sys2Proof.Machine.execBrselV1L3 hi lo s
  | .brselV2L1 hi lo => Sys2Proof.Machine.execBrselV2L1 hi lo s
  | .brselV2L2 hi lo => Sys2Proof.Machine.execBrselV2L2 hi lo s
  | .brselV2L3 hi lo => Sys2Proof.Machine.execBrselV2L3 hi lo s
  | .brselRsvV hi lo => Sys2Proof.Machine.execBrselRsvV hi lo s
  | .brselRsvL hi lo => Sys2Proof.Machine.execBrselRsvL hi lo s
  | .sfselV1 hi lo => Sys2Proof.Machine.execSfselV1 hi lo s
  | .sfselV2 hi lo => Sys2Proof.Machine.execSfselV2 hi lo s
  | .sfselV25 hi lo => Sys2Proof.Machine.execSfselV25 hi lo s
  | .sfselRsvV hi lo => Sys2Proof.Machine.execSfselRsvV hi lo s
  | .bridxFree hi lo => Sys2Proof.Machine.execBridxFree hi lo s
  | .bridxBad hi lo => Sys2Proof.Machine.execBridxBad hi lo s
  | .sfidxRsv hi lo => Sys2Proof.Machine.execSfidxRsv hi lo s
  | .version0 hi lo => Sys2Proof.Machine.execVersion0 hi lo s
  | .version1 hi lo => Sys2Proof.Machine.execVersion1 hi lo s
  | .version2 hi lo => Sys2Proof.Machine.execVersion2 hi lo s
  | .version3 hi lo => Sys2Proof.Machine.execVersion3 hi lo s
  | .layer0 hi lo => Sys2Proof.Machine.execLayer0 hi lo s
  | .layer1 hi lo => Sys2Proof.Machine.execLayer1 hi lo s
  | .layer2 hi lo => Sys2Proof.Machine.execLayer2 hi lo s
  | .layer3 hi lo => Sys2Proof.Machine.execLayer3 hi lo s
  | .prot0 hi lo => Sys2Proof.Machine.execProt0 hi lo s
  | .prot1 hi lo => Sys2Proof.Machine.execProt1 hi lo s
  | .chmode0 hi lo => Sys2Proof.Machine.execChmode0 hi lo s
  | .chmode1 hi lo => Sys2Proof.Machine.execChmode1 hi lo s
  | .chmode2 hi lo => Sys2Proof.Machine.execChmode2 hi lo s
  | .chmode3 hi lo => Sys2Proof.Machine.execChmode3 hi lo s
  | .emph0 hi => Sys2Proof.Machine.execEmph0 hi s
  | .emph1 hi => Sys2Proof.Machine.execEmph1 hi s
  | .emph2 hi => Sys2Proof.Machine.execEmph2 hi s
  | .emph3 hi => Sys2Proof.Machine.execEmph3 hi s
  | .syncOk lo => Sys2Proof.Machine.execSyncOk lo s

end Sys2Proof.Machine
end

