-- ==== Sys2Proof/Machine/Step.lean ====
section
/-! DEFINITION. One step: take the next thing the host presents and do what it asks. An edge is one
rising edge of `CLK`; operands on a combinational module take no edge (R107, R137; log entry 7). -/

namespace Sys2Proof.Machine

/-- The step. It answers a next state for every state: "the block has a step at every clock edge for
every input" (R124). -/
def step (s : State) : Host.Outcome State Fault Refusal :=
  match nextEvent s with
  | (.reset, s') => .next (resetEdge s')
  | (.idle, s') => .next (idleEdge s')
  | (.operation i, s') => exec i s'

/-- The state with a word of the opcode table presented next, before everything else the host
presents (log entry 8). -/
def State.withFetchWord (s : State) (nbits w : Nat) : State :=
  match tableInput nbits w with
  | none => s
  | some e => { s with inputs := e :: s.inputs }

end Sys2Proof.Machine
end

