-- ==== Sys2Proof/Safety.lean ====
section
/-! DEFINITION. What counts as a safe use of the block, in the terms claims use: the invariant of the
machine, what the host must check (70_reset_and_hazards.md section 4), and what `OUT` holds after a
list of inputs. -/

namespace Sys2Proof.Machine

/-! ## Legal values and the invariant (R15, R134) -/

/-- A bit rate the block can report for these codes: 0, -1, or an entry of the table they select (R15). -/
def legalBitRate (c : Config) (version layer : Code2) (r : Int) : Prop :=
  r = 0 ∨ r = -1 ∨
    ∃ t n, brSelect version layer = some t ∧ n ∈ (brRom c t).toList ∧ r = (n : Int)

/-- A sampling frequency the block can report for this version: -1, or an entry of the table it
selects (R15). -/
def legalSamplingFrequency (c : Config) (version : Code2) (r : Int) : Prop :=
  r = -1 ∨ ∃ t n, sfSelect version = some t ∧ n ∈ (sfRom c t).toList ∧ r = (n : Int)

/-- A FrameHeader the block can produce: each integer is legal for the record's own codes (R15, R134). -/
def legalRecord (c : Config) (f : FrameHeader) : Prop :=
  legalBitRate c f.version f.layer f.bitRateKbps ∧
    legalSamplingFrequency c f.version f.samplingFrequencyHz

/-- The invariant. `OUT_VALID = 1` only when `OUT` holds a record; what `OUT` holds is legal; the
lookup ports show a value some operands give (R15, R17, R24). -/
def Inv (s : State) : Prop :=
  (s.outValid = true → s.out ≠ none) ∧
  (∀ f, s.out = some f → legalRecord tables f) ∧
  (∃ v l, legalBitRate tables v l s.brtab) ∧
  (∃ v, legalSamplingFrequency tables v s.sftab)

/-! ## What the host must check (R131 to R136) -/

/-- The host compares `frame_sync` with the all-ones pattern (R133). -/
def syncOk (f : FrameHeader) : Bool :=
  f.frameSync == 0x7FF#11

/-- Two CRC octets follow the header, for the host to consume (R132). -/
def crcFollows (f : FrameHeader) : Bool :=
  f.isProtected

/-- A reserved version, layer or emphasis is present (R134). -/
def reservedCode (f : FrameHeader) : Bool :=
  f.version == 1#2 || f.layer == 0#2 || f.emphasis == 2#2

/-- "bit_rate/sampling_frequency being non-negative": not invalid, which free format passes (R131,
90_conflicts.md C8). -/
def notInvalid (f : FrameHeader) : Bool :=
  decide (0 ≤ f.bitRateKbps) && decide (0 ≤ f.samplingFrequencyHz)

/-- Usable for frame-length computation: both integers above 0 (R131). -/
def usable (f : FrameHeader) : Bool :=
  decide (0 < f.bitRateKbps) && decide (0 < f.samplingFrequencyHz)

/-! ## What a list of inputs leaves (R24, R129) -/

/-- The latest edge of a list that writes `OUT`: `some none` is a reset, `some (some h)` loads `h`,
`none` says no edge of the list writes it (R17). -/
def lastWrite : List Input → Option (Option HeaderWord)
  | [] => none
  | e :: rest =>
    match lastWrite rest with
    | some w => some w
    | none =>
      match e with
      | .edge true _ _ => some none
      | .edge false true h => some (some h)
      | .edge false false _ => none
      | .bitx8 _ | .bitx16 _ | .brtab _ | .sftab _ => none

/-- Whether the latest edge of a list accepts a header; `none` says the list has no edge (R129). -/
def lastEdgeAccepts : List Input → Option Bool
  | [] => none
  | e :: rest =>
    match lastEdgeAccepts rest with
    | some b => some b
    | none =>
      match e with
      | .edge rst valid _ => some (!rst && valid)
      | .bitx8 _ | .bitx16 _ | .brtab _ | .sftab _ => none

end Sys2Proof.Machine
end

