-- ==== Sys2Proof/Certificates/Slice0/Obligations.lean ====
section
/-! DEFINITION. The statements for the provers, file by file of spec/. A statement whose conclusion
is `exec i s = .next t` for every state says that the instruction completes, what it writes, and, since
`t` is the whole state, that it changes nothing else. -/

open Sys2Proof Sys2Proof.Machine

/-! ## 40_bit_extractor.md -/

/-- R64: the operand word's fields, the piecewise result by `wsel`, no other state written, no exception. -/
def Obligations.Extract8WritesItsResultPort : Prop :=
  ∀ (s : State) (wsel : BitVec 5) (offset : BitVec 3) (value : Octet),
    decodeBitx8 (wsel ++ offset ++ value) =
      .extract8 value offset (if wsel = 0#5 then .rest else .exact wsel.toNat) ∧
    exec (decodeBitx8 (wsel ++ offset ++ value)) s = .next { s with
      bitx8 :=
        if wsel = 0#5 then value >>> offset.toNat
        else if wsel.toNat ≤ 7 then
          (value >>> offset.toNat) &&& BitVec.ofNat 8 (2 ^ wsel.toNat - 1)
        else value >>> offset.toNat }

/-- R65: the operand word's fields, the piecewise result by `wsel`, no other state written, no exception. -/
def Obligations.Extract16WritesItsResultPort : Prop :=
  ∀ (s : State) (wsel : BitVec 5) (offset : BitVec 4) (value : Word16),
    decodeBitx16 (wsel ++ offset ++ value) =
      .extract16 value offset (if wsel = 0#5 then .rest else .exact wsel.toNat) ∧
    exec (decodeBitx16 (wsel ++ offset ++ value)) s = .next { s with
      bitx16 :=
        if wsel = 0#5 then value >>> offset.toNat
        else if wsel.toNat ≤ 15 then
          (value >>> offset.toNat) &&& BitVec.ofNat 16 (2 ^ wsel.toNat - 1)
        else value >>> offset.toNat }

/-- R63: shift, then no mask or the mask `2^n - 1`; and the result is the field itself,
zero-extended, read off the value. -/
def Obligations.ExtractReturnsTheField : Prop :=
  ∀ (W : Nat) (value : BitVec W) (offset n : Nat), offset < W →
    extractW value offset .rest = value >>> offset ∧
    extractW value offset (.exact n) = (value >>> offset) &&& BitVec.ofNat W (2 ^ n - 1) ∧
    extractW value offset .rest = (value.extractLsb' offset (W - offset)).setWidth W ∧
    (offset + n ≤ W →
      extractW value offset (.exact n) = (value.extractLsb' offset n).setWidth W)

/-- R68: an over-wide field is the bits that exist, zero-extended, which is the `Rest` field; so is
every count from `W` to 31, at every offset. -/
def Obligations.OverwideFieldActsAsRest : Prop :=
  (∀ (W : Nat) (value : BitVec W) (offset n : Nat), offset < W → W - offset ≤ n →
    extractW value offset (.exact n) = (value.extractLsb' offset (W - offset)).setWidth W ∧
    extractW value offset (.exact n) = extractW value offset .rest) ∧
  (∀ (value : Octet) (offset : BitVec 3) (n : Nat), 8 ≤ n → n ≤ 31 →
    extract8 value offset (.exact n) = extract8 value offset .rest) ∧
  (∀ (value : Word16) (offset : BitVec 4) (n : Nat), 16 ≤ n → n ≤ 31 →
    extract16 value offset (.exact n) = extract16 value offset .rest)

/-- R70 (the spec's own derivation): identity, bounds, reduction modulo `2^n`, and the one-bit field. -/
def Obligations.ExtractorArithmeticLaws : Prop :=
  ∀ (W : Nat) (value : BitVec W) (offset n : Nat), offset < W →
    extractW value 0 .rest = value ∧
    (extractW value offset .rest).toNat < 2 ^ (W - offset) ∧
    (extractW value offset (.exact n)).toNat < 2 ^ min n (W - offset) ∧
    (extractW value offset (.exact n)).toNat = (extractW value offset .rest).toNat % 2 ^ n ∧
    (extractW value offset (.exact 1)).toNat = (value.getLsbD offset).toNat

/-- R70 (the spec's own derivation): the two sizes agree on the low byte. -/
def Obligations.ExtractorSizesAgree : Prop :=
  ∀ (v : Octet) (o : BitVec 3) (w : Width),
    extract16 (v.setWidth 16) (o.setWidth 4) w = (extract8 v o w).setWidth 16

/-- R70 (the spec's own derivation): adjacent fields tile. -/
def Obligations.ExtractorFieldsTile : Prop :=
  ∀ (W : Nat) (value : BitVec W) (offset a b : Nat), offset < W → a + b ≤ W - offset →
    (extractW value offset (.exact (a + b))).toNat =
      (extractW value (offset + a) (.exact b)).toNat * 2 ^ a +
        (extractW value offset (.exact a)).toNat

/-! ## 20_memory.md and 41_field_tables.md -/

/-- R73: the operand word's fields, the tests in their order, the 32-bit port, the source's example,
no other state written, no exception. -/
def Obligations.BrlookupWritesItsResultPort : Prop :=
  ∀ (s : State) (version layer : Code2) (index : BitVec 4),
    decodeBrtab (version ++ layer ++ index) = .brlookup version layer index ∧
    ∃ r : Int, exec (decodeBrtab (version ++ layer ++ index)) s = .next { s with brtab := r } ∧
      (index = 0#4 → r = 0) ∧
      (index = 15#4 → r = -1) ∧
      (index ≠ 0#4 → index ≠ 15#4 → brSelect version layer = none → r = -1) ∧
      (∀ t, index ≠ 0#4 → index ≠ 15#4 → brSelect version layer = some t →
        ∃ n, (brRom tables t).toList[index.toNat - 1]? = some n ∧ r = (n : Int)) ∧
      (intPort r).toInt = r ∧
      (version = 3#2 → layer = 1#2 → index = 9#4 → r = 128)

/-- R82: the operand word's fields, reserved version and index 3, the table entry otherwise, the
32-bit port, the source's example, no other state written, no exception. -/
def Obligations.SflookupWritesItsResultPort : Prop :=
  ∀ (s : State) (version index : Code2),
    decodeSftab (version ++ index) = .sflookup version index ∧
    ∃ r : Int, exec (decodeSftab (version ++ index)) s = .next { s with sftab := r } ∧
      (sfSelect version = none → r = -1) ∧
      (index = 3#2 → r = -1) ∧
      (∀ t, index ≠ 3#2 → sfSelect version = some t →
        ∃ n, (sfRom tables t).toList[index.toNat]? = some n ∧ r = (n : Int)) ∧
      (intPort r).toInt = r ∧
      (version = 3#2 → index = 0#2 → r = 44100)

/-- R74: the tests for index 0 and 15 come before the selection, for every configuration and pair. -/
def Obligations.SentinelIndicesComeBeforeSelection : Prop :=
  ∀ (c : Config) (version layer : Code2),
    bitRate c version layer 0 = 0 ∧ bitRate c version layer 15 = -1 ∧
    (version = 1#2 ∨ layer = 0#2 → ∀ index, 1 ≤ index → index ≤ 14 →
      bitRate c version layer index = -1)

/-- R28: a bit-rate index of 15 or more and a sampling-frequency index of 3 or more give -1, and no
ROM entry is read: the answer is the same for every configuration. -/
def Obligations.OutOfRangeIndicesGiveMinusOne : Prop :=
  ∀ (c : Config) (version layer : Code2) (index : Nat),
    (15 ≤ index → bitRate c version layer index = -1) ∧
    (3 ≤ index → samplingFrequency c version index = -1)

/-- R75 (the spec's own derivation): keys that share a table never differ, for every configuration. -/
def Obligations.SharedTablesNeverDiffer : Prop :=
  ∀ (c : Config) (layer : Code2) (index : Nat),
    bitRate c 0#2 layer index = bitRate c 2#2 layer index ∧
    bitRate c 0#2 1#2 index = bitRate c 0#2 2#2 index ∧
    bitRate c 2#2 1#2 index = bitRate c 2#2 2#2 index

/-- R76 to R80 with R73. THE NUMBERS ARE THE SPEC'S DEFAULTS FROM GENERAL KNOWLEDGE (log entry 4):
a statement about this configuration only. -/
def Obligations.DefaultBitRates : Prop :=
  ∀ (s : State) (index : BitVec 4), index ≠ 0#4 → index ≠ 15#4 →
    ∃ a b c d e : Nat,
      [32, 64, 96, 128, 160, 192, 224, 256, 288, 320, 352, 384, 416, 448][index.toNat - 1]? = some a ∧
      [32, 48, 56, 64, 80, 96, 112, 128, 160, 192, 224, 256, 320, 384][index.toNat - 1]? = some b ∧
      [32, 40, 48, 56, 64, 80, 96, 112, 128, 160, 192, 224, 256, 320][index.toNat - 1]? = some c ∧
      [32, 48, 56, 64, 80, 96, 112, 128, 144, 160, 176, 192, 224, 256][index.toNat - 1]? = some d ∧
      [8, 16, 24, 32, 40, 48, 56, 64, 80, 96, 112, 128, 144, 160][index.toNat - 1]? = some e ∧
      exec (.brlookup 3#2 3#2 index) s = .next { s with brtab := (a : Int) } ∧
      exec (.brlookup 3#2 2#2 index) s = .next { s with brtab := (b : Int) } ∧
      exec (.brlookup 3#2 1#2 index) s = .next { s with brtab := (c : Int) } ∧
      exec (.brlookup 2#2 3#2 index) s = .next { s with brtab := (d : Int) } ∧
      exec (.brlookup 0#2 3#2 index) s = .next { s with brtab := (d : Int) } ∧
      exec (.brlookup 2#2 2#2 index) s = .next { s with brtab := (e : Int) } ∧
      exec (.brlookup 2#2 1#2 index) s = .next { s with brtab := (e : Int) } ∧
      exec (.brlookup 0#2 2#2 index) s = .next { s with brtab := (e : Int) } ∧
      exec (.brlookup 0#2 1#2 index) s = .next { s with brtab := (e : Int) }

/-- R84 to R86 with R82. THE NUMBERS ARE THE SPEC'S DEFAULTS FROM GENERAL KNOWLEDGE (log entry 4):
a statement about this configuration only. -/
def Obligations.DefaultSamplingFrequencies : Prop :=
  ∀ (s : State) (index : Code2), index ≠ 3#2 →
    ∃ a b c : Nat,
      [44100, 48000, 32000][index.toNat]? = some a ∧
      [22050, 24000, 16000][index.toNat]? = some b ∧
      [11025, 12000, 8000][index.toNat]? = some c ∧
      exec (.sflookup 3#2 index) s = .next { s with sftab := (a : Int) } ∧
      exec (.sflookup 2#2 index) s = .next { s with sftab := (b : Int) } ∧
      exec (.sflookup 0#2 index) s = .next { s with sftab := (c : Int) } ∧
      exec (.sflookup 1#2 index) s = .next { s with sftab := -1 }

/-- R87: what `OUT` and the lookup ports carry, read as 32-bit two's complement, is the integer
itself, for every header and operand; and the spec's port values. -/
def Obligations.IntegerPortsCarryTheirValue : Prop :=
  (∀ h : HeaderWord,
    (outPorts (decodeWord tables h)).bitRateKbps.toInt = (decodeWord tables h).bitRateKbps ∧
    (outPorts (decodeWord tables h)).samplingFrequencyHz.toInt =
      (decodeWord tables h).samplingFrequencyHz) ∧
  (∀ (version layer : Code2) (index : BitVec 4),
    (intPort (bitRate tables version layer index.toNat)).toInt =
      bitRate tables version layer index.toNat) ∧
  (∀ version index : Code2,
    (intPort (samplingFrequency tables version index.toNat)).toInt =
      samplingFrequency tables version index.toNat) ∧
  intPort (-1) = 0xFFFFFFFF#32 ∧ intPort 0 = 0x00000000#32 ∧ intPort 128 = 0x00000080#32 ∧
  intPort 44100 = 0x0000AC44#32 ∧ intPort 48000 = 0x0000BB80#32

/-! ## 30_encoding.md: selection and classes -/

/-- R53: the match and mask rows select the table of R72, and exactly one of the six table rows
applies, or else no table is selected and a reserved row applies; nine of the sixteen pairs select one. -/
def Obligations.BrselMasksSelectTheTable : Prop :=
  (((List.range 4).flatMap (fun v => (List.range 4).map (fun l =>
    brSelect (BitVec.ofNat 2 v) (BitVec.ofNat 2 l)))).filter Option.isSome).length = 9 ∧
  ∀ h : HeaderWord,
    (Row.brselV1L1.applies h → brSelect (h.extractLsb' 19 2) (h.extractLsb' 17 2) = some .brV1L1) ∧
    (Row.brselV1L2.applies h → brSelect (h.extractLsb' 19 2) (h.extractLsb' 17 2) = some .brV1L2) ∧
    (Row.brselV1L3.applies h → brSelect (h.extractLsb' 19 2) (h.extractLsb' 17 2) = some .brV1L3) ∧
    (Row.brselV2L1.applies h → brSelect (h.extractLsb' 19 2) (h.extractLsb' 17 2) = some .brV2L1) ∧
    (Row.brselV2L2.applies h → brSelect (h.extractLsb' 19 2) (h.extractLsb' 17 2) = some .brV2L23) ∧
    (Row.brselV2L3.applies h → brSelect (h.extractLsb' 19 2) (h.extractLsb' 17 2) = some .brV2L23) ∧
    (Row.brselRsvV.applies h ∨ Row.brselRsvL.applies h ↔
      brSelect (h.extractLsb' 19 2) (h.extractLsb' 17 2) = none) ∧
    (([Row.brselV1L1, .brselV1L2, .brselV1L3, .brselV2L1, .brselV2L2, .brselV2L3].filter
      (fun r => r.applies h)).length =
        if (brSelect (h.extractLsb' 19 2) (h.extractLsb' 17 2)).isSome then 1 else 0)

/-- R54: the match and mask rows select the table of R83 by the version alone, and exactly one of
the four rows applies. -/
def Obligations.SfselMasksSelectTheTable : Prop :=
  ∀ h : HeaderWord,
    (Row.sfselV1.applies h → sfSelect (h.extractLsb' 19 2) = some .sfV1) ∧
    (Row.sfselV2.applies h → sfSelect (h.extractLsb' 19 2) = some .sfV2) ∧
    (Row.sfselV25.applies h → sfSelect (h.extractLsb' 19 2) = some .sfV25) ∧
    (Row.sfselRsvV.applies h → sfSelect (h.extractLsb' 19 2) = none) ∧
    ([Row.sfselV1, .sfselV2, .sfselV25, .sfselRsvV].filter (fun r => r.applies h)).length = 1

/-- 30_encoding.md, head: "every header belongs to one class of each family", for the families that
cover every code. -/
def Obligations.OneClassOfEachCodeFamily : Prop :=
  ∀ h : HeaderWord,
    ([Row.version0, .version1, .version2, .version3].filter (fun r => r.applies h)).length = 1 ∧
    ([Row.layer0, .layer1, .layer2, .layer3].filter (fun r => r.applies h)).length = 1 ∧
    ([Row.prot0, .prot1].filter (fun r => r.applies h)).length = 1 ∧
    ([Row.chmode0, .chmode1, .chmode2, .chmode3].filter (fun r => r.applies h)).length = 1 ∧
    ([Row.emph0, .emph1, .emph2, .emph3].filter (fun r => r.applies h)).length = 1

/-- R58: the reserved and special encodings and what the block outputs, for every configuration;
the emphasis code and the frame sync change nothing else. What changing one of the other codes leaves
alone is said by `CodesAndIndicesChangeOnlyTheirFields`. -/
def Obligations.ReservedEncodingsHaveDefinedOutputs : Prop :=
  (∀ (c : Config) (hi : BitVec 30) (e e' : Code2),
    decodeWord c (hi ++ e') = { decodeWord c (hi ++ e) with emphasis := e' }) ∧
  (∀ (c : Config) (sync sync' : BitVec 11) (lo : BitVec 21),
    decodeWord c (sync' ++ lo) = { decodeWord c (sync ++ lo) with frameSync := sync' }) ∧
  ∀ (c : Config) (h : HeaderWord),
    (h.extractLsb' 19 2 = 1#2 →
      (decodeWord c h).version = 1#2 ∧ (decodeWord c h).samplingFrequencyHz = -1 ∧
      (decodeWord c h).bitRateKbps = if h.extractLsb' 12 4 = 0#4 then 0 else -1) ∧
    (h.extractLsb' 17 2 = 0#2 →
      (decodeWord c h).layer = 0#2 ∧
      (decodeWord c h).bitRateKbps = (if h.extractLsb' 12 4 = 0#4 then 0 else -1) ∧
      (decodeWord c h).samplingFrequencyHz =
        samplingFrequency c (h.extractLsb' 19 2) (h.extractLsb' 10 2).toNat) ∧
    (h.extractLsb' 12 4 = 0#4 → (decodeWord c h).bitRateKbps = 0) ∧
    (h.extractLsb' 12 4 = 15#4 → (decodeWord c h).bitRateKbps = -1) ∧
    (h.extractLsb' 10 2 = 3#2 → (decodeWord c h).samplingFrequencyHz = -1) ∧
    (h.extractLsb' 0 2 = 2#2 → (decodeWord c h).emphasis = 2#2) ∧
    (decodeWord c h).frameSync = h.extractLsb' 21 11

/-! ## 42_header_decoder.md -/

/-- R92 to R94, and the positions of R91: the fields of the first two octets, by the extractor, by `w16` and by `H`; DECODE
loads `OUT`, sets `OUT_VALID`, and changes nothing else. -/
def Obligations.DecodeLoadsFieldsOfFirstTwoOctets : Prop :=
  ∀ (s : State) (b0 b1 b2 b3 : Octet), ∃ f : FrameHeader,
    exec (.decode b0 b1 b2 b3) s = .next { s with outValid := true, out := some f } ∧
    f.frameSync = (extract16 (b0 ++ b1) 5#4 .rest).setWidth 11 ∧
    f.frameSync = BitVec.extractLsb' 5 11 (b0 ++ b1) ∧
    f.frameSync = BitVec.extractLsb' 21 11 (b0 ++ b1 ++ b2 ++ b3) ∧
    f.version = (extract16 (b0 ++ b1) 3#4 (.exact 2)).setWidth 2 ∧
    f.version = BitVec.extractLsb' 3 2 (b0 ++ b1) ∧
    f.version = BitVec.extractLsb' 19 2 (b0 ++ b1 ++ b2 ++ b3) ∧
    f.layer = (extract16 (b0 ++ b1) 1#4 (.exact 2)).setWidth 2 ∧
    f.layer = BitVec.extractLsb' 1 2 (b0 ++ b1) ∧
    f.layer = BitVec.extractLsb' 17 2 (b0 ++ b1 ++ b2 ++ b3) ∧
    f.isProtected = (extract16 (b0 ++ b1) 0#4 (.exact 1) == 0#16) ∧
    f.isProtected = !(b0 ++ b1).getLsbD 0 ∧
    f.isProtected = !(b0 ++ b1 ++ b2 ++ b3).getLsbD 16

/-- R97, R98: the padding and private bits, not inverted. -/
def Obligations.DecodeLoadsPaddingAndPrivate : Prop :=
  ∀ (s : State) (b0 b1 b2 b3 : Octet), ∃ f : FrameHeader,
    exec (.decode b0 b1 b2 b3) s = .next { s with outValid := true, out := some f } ∧
    f.padding = (extract8 b2 1#3 (.exact 1) == 1#8) ∧
    f.padding = b2.getLsbD 1 ∧
    f.padding = (b0 ++ b1 ++ b2 ++ b3).getLsbD 9 ∧
    f.isPrivate = (extract8 b2 0#3 (.exact 1) == 1#8) ∧
    f.isPrivate = b2.getLsbD 0 ∧
    f.isPrivate = (b0 ++ b1 ++ b2 ++ b3).getLsbD 8

/-- R95, R96: the two looked-up integers, their indices, and the bits they depend on. -/
def Obligations.DecodeLoadsLookedUpIntegers : Prop :=
  (∀ (s : State) (b0 b1 b2 b3 : Octet), ∃ f : FrameHeader,
    exec (.decode b0 b1 b2 b3) s = .next { s with outValid := true, out := some f } ∧
    f.bitRateKbps = bitRate tables f.version f.layer (extract8 b2 4#3 .rest).toNat ∧
    (extract8 b2 4#3 .rest).toNat = (b2.extractLsb' 4 4).toNat ∧
    b2.extractLsb' 4 4 = BitVec.extractLsb' 12 4 (b0 ++ b1 ++ b2 ++ b3) ∧
    f.samplingFrequencyHz =
      samplingFrequency tables f.version (extract8 b2 2#3 (.exact 2)).toNat ∧
    (extract8 b2 2#3 (.exact 2)).toNat = (b2.extractLsb' 2 2).toNat ∧
    b2.extractLsb' 2 2 = BitVec.extractLsb' 10 2 (b0 ++ b1 ++ b2 ++ b3) ∧
    legalRecord tables f) ∧
  (∀ (c : Config) (h k : HeaderWord),
    (h.extractLsb' 17 4 = k.extractLsb' 17 4 → h.extractLsb' 12 4 = k.extractLsb' 12 4 →
      (decodeWord c h).bitRateKbps = (decodeWord c k).bitRateKbps) ∧
    (h.extractLsb' 19 2 = k.extractLsb' 19 2 → h.extractLsb' 10 2 = k.extractLsb' 10 2 →
      (decodeWord c h).samplingFrequencyHz = (decodeWord c k).samplingFrequencyHz))

/-- R99 to R103: the fields of the last octet, raw and not inverted. -/
def Obligations.DecodeLoadsFieldsOfLastOctet : Prop :=
  ∀ (s : State) (b0 b1 b2 b3 : Octet), ∃ f : FrameHeader,
    exec (.decode b0 b1 b2 b3) s = .next { s with outValid := true, out := some f } ∧
    f.channelMode = (extract8 b3 6#3 .rest).setWidth 2 ∧
    f.channelMode = b3.extractLsb' 6 2 ∧
    f.channelMode = BitVec.extractLsb' 6 2 (b0 ++ b1 ++ b2 ++ b3) ∧
    f.modeExtension = (extract8 b3 4#3 (.exact 2)).setWidth 2 ∧
    f.modeExtension = b3.extractLsb' 4 2 ∧
    f.modeExtension = BitVec.extractLsb' 4 2 (b0 ++ b1 ++ b2 ++ b3) ∧
    f.isCopyrighted = (extract8 b3 3#3 (.exact 1) == 1#8) ∧
    f.isCopyrighted = b3.getLsbD 3 ∧
    f.isCopyrighted = (b0 ++ b1 ++ b2 ++ b3).getLsbD 3 ∧
    f.isOriginal = (extract8 b3 2#3 (.exact 1) == 1#8) ∧
    f.isOriginal = b3.getLsbD 2 ∧
    f.isOriginal = (b0 ++ b1 ++ b2 ++ b3).getLsbD 2 ∧
    f.emphasis = (extract8 b3 0#3 (.exact 2)).setWidth 2 ∧
    f.emphasis = b3.extractLsb' 0 2 ∧
    f.emphasis = BitVec.extractLsb' 0 2 (b0 ++ b1 ++ b2 ++ b3)

/-- R104 (the spec's own derivation): the extractor form of R90 and the closed form over `H` agree,
for every configuration; "a proof that the two agree is a good first law". -/
def Obligations.DecodeEqualsClosedForm : Prop :=
  ∀ (c : Config) (b0 b1 b2 b3 : Octet),
    decodeHeader c b0 b1 b2 b3 = closedForm c (b0 ++ b1 ++ b2 ++ b3)

/-- R105 (the spec's own derivation): the 26 bits outside the two indices can be read back from the
record; a bit-rate index cannot when the rate is -1. -/
def Obligations.RecordKeepsTwentySixBits : Prop :=
  (∀ (c : Config) (h k : HeaderWord), decodeWord c h = decodeWord c k →
    h &&& 0xFFFF03FF#32 = k &&& 0xFFFF03FF#32) ∧
  (∀ (c : Config) (hi : BitVec 16) (lo : BitVec 12) (i j : BitVec 4),
    i ≠ 0#4 → j ≠ 0#4 → (hi.extractLsb' 3 2 = 1#2 ∨ hi.extractLsb' 1 2 = 0#2) →
    decodeWord c (hi ++ i ++ lo) = decodeWord c (hi ++ j ++ lo))

/-- R91, R111: the frame sync is output as it is, and a header whose sync is not `0x7FF` is decoded
exactly as any other. -/
def Obligations.SyncChangesNoOtherField : Prop :=
  (∀ (c : Config) (h : HeaderWord),
    (decodeWord c h).frameSync = (extract16 (h.extractLsb' 16 16) 5#4 .rest).setWidth 11 ∧
    (decodeWord c h).frameSync = (h.extractLsb' 16 16).extractLsb' 5 11 ∧
    (decodeWord c h).frameSync = h.extractLsb' 21 11) ∧
  (∀ (c : Config) (sync sync' : BitVec 11) (lo : BitVec 21),
    decodeWord c (sync' ++ lo) = { decodeWord c (sync ++ lo) with frameSync := sync' })

/-! ## Class rows -/

/-- R53 on headers presented in each class (class rows as
instructions: the model's reading, log entry 5): `bit_rate_kbps` comes from the row's table (or none), and
the whole record is the closed form of the header. -/
def Obligations.BrselRowsLoadTheirRate : Prop :=
  ∀ s : State,
    (∀ (hi : BitVec 11) (lo : BitVec 17), ∃ f,
      exec (.brselV1L1 hi lo) s = .next { s with outValid := true, out := some f } ∧
      f = closedForm tables (hi ++ 15#4 ++ lo) ∧
      f.bitRateKbps = bitRateFrom tables (some .brV1L1) (lo.extractLsb' 12 4).toNat) ∧
    (∀ (hi : BitVec 11) (lo : BitVec 17), ∃ f,
      exec (.brselV1L2 hi lo) s = .next { s with outValid := true, out := some f } ∧
      f = closedForm tables (hi ++ 14#4 ++ lo) ∧
      f.bitRateKbps = bitRateFrom tables (some .brV1L2) (lo.extractLsb' 12 4).toNat) ∧
    (∀ (hi : BitVec 11) (lo : BitVec 17), ∃ f,
      exec (.brselV1L3 hi lo) s = .next { s with outValid := true, out := some f } ∧
      f = closedForm tables (hi ++ 13#4 ++ lo) ∧
      f.bitRateKbps = bitRateFrom tables (some .brV1L3) (lo.extractLsb' 12 4).toNat) ∧
    (∀ (hi : BitVec 12) (lo : BitVec 17), ∃ f,
      exec (.brselV2L1 hi lo) s = .next { s with outValid := true, out := some f } ∧
      f = closedForm tables (hi ++ 3#3 ++ lo) ∧
      f.bitRateKbps = bitRateFrom tables (some .brV2L1) (lo.extractLsb' 12 4).toNat) ∧
    (∀ (hi : BitVec 12) (lo : BitVec 17), ∃ f,
      exec (.brselV2L2 hi lo) s = .next { s with outValid := true, out := some f } ∧
      f = closedForm tables (hi ++ 2#3 ++ lo) ∧
      f.bitRateKbps = bitRateFrom tables (some .brV2L23) (lo.extractLsb' 12 4).toNat) ∧
    (∀ (hi : BitVec 12) (lo : BitVec 17), ∃ f,
      exec (.brselV2L3 hi lo) s = .next { s with outValid := true, out := some f } ∧
      f = closedForm tables (hi ++ 1#3 ++ lo) ∧
      f.bitRateKbps = bitRateFrom tables (some .brV2L23) (lo.extractLsb' 12 4).toNat) ∧
    (∀ (hi : BitVec 11) (lo : BitVec 19), ∃ f,
      exec (.brselRsvV hi lo) s = .next { s with outValid := true, out := some f } ∧
      f = closedForm tables (hi ++ 1#2 ++ lo) ∧
      f.bitRateKbps = if lo.extractLsb' 12 4 = 0#4 then 0 else -1) ∧
    (∀ (hi : BitVec 13) (lo : BitVec 17), ∃ f,
      exec (.brselRsvL hi lo) s = .next { s with outValid := true, out := some f } ∧
      f = closedForm tables (hi ++ 0#2 ++ lo) ∧
      f.bitRateKbps = if lo.extractLsb' 12 4 = 0#4 then 0 else -1)

/-- R54 on headers presented in each class (class rows
as instructions: the model's reading, log entry 5). -/
def Obligations.SfselRowsLoadTheirFrequency : Prop :=
  ∀ (s : State) (hi : BitVec 11) (lo : BitVec 19),
    (∃ f, exec (.sfselV1 hi lo) s = .next { s with outValid := true, out := some f } ∧
      f = closedForm tables (hi ++ 3#2 ++ lo) ∧
      f.samplingFrequencyHz =
        samplingFrequencyFrom tables (some .sfV1) (lo.extractLsb' 10 2).toNat) ∧
    (∃ f, exec (.sfselV2 hi lo) s = .next { s with outValid := true, out := some f } ∧
      f = closedForm tables (hi ++ 2#2 ++ lo) ∧
      f.samplingFrequencyHz =
        samplingFrequencyFrom tables (some .sfV2) (lo.extractLsb' 10 2).toNat) ∧
    (∃ f, exec (.sfselV25 hi lo) s = .next { s with outValid := true, out := some f } ∧
      f = closedForm tables (hi ++ 0#2 ++ lo) ∧
      f.samplingFrequencyHz =
        samplingFrequencyFrom tables (some .sfV25) (lo.extractLsb' 10 2).toNat) ∧
    (∃ f, exec (.sfselRsvV hi lo) s = .next { s with outValid := true, out := some f } ∧
      f = closedForm tables (hi ++ 1#2 ++ lo) ∧ f.samplingFrequencyHz = -1)

/-- R45, R46 on headers presented in each index class (class rows
as instructions: the model's reading, log entry 5). -/
def Obligations.IndexRowsLoadTheirSentinel : Prop :=
  ∀ s : State,
    (∀ (hi : BitVec 16) (lo : BitVec 12), ∃ f,
      exec (.bridxFree hi lo) s = .next { s with outValid := true, out := some f } ∧
      f = closedForm tables (hi ++ 0#4 ++ lo) ∧ f.bitRateKbps = 0) ∧
    (∀ (hi : BitVec 16) (lo : BitVec 12), ∃ f,
      exec (.bridxBad hi lo) s = .next { s with outValid := true, out := some f } ∧
      f = closedForm tables (hi ++ 15#4 ++ lo) ∧ f.bitRateKbps = -1) ∧
    (∀ (hi : BitVec 20) (lo : BitVec 10), ∃ f,
      exec (.sfidxRsv hi lo) s = .next { s with outValid := true, out := some f } ∧
      f = closedForm tables (hi ++ 3#2 ++ lo) ∧ f.samplingFrequencyHz = -1)

/-- R42, R43 on headers presented in each version and layer class (class rows
as instructions: the model's reading, log entry 5). -/
def Obligations.VersionAndLayerRowsLoadTheirCode : Prop :=
  ∀ s : State,
    (∀ (hi : BitVec 11) (lo : BitVec 19), ∃ f,
      exec (.version0 hi lo) s = .next { s with outValid := true, out := some f } ∧
      f = closedForm tables (hi ++ 0#2 ++ lo) ∧ f.version = 0#2 ∧
      versionName f.version = .mpeg25) ∧
    (∀ (hi : BitVec 11) (lo : BitVec 19), ∃ f,
      exec (.version1 hi lo) s = .next { s with outValid := true, out := some f } ∧
      f = closedForm tables (hi ++ 1#2 ++ lo) ∧ f.version = 1#2 ∧
      versionName f.version = .reserved) ∧
    (∀ (hi : BitVec 11) (lo : BitVec 19), ∃ f,
      exec (.version2 hi lo) s = .next { s with outValid := true, out := some f } ∧
      f = closedForm tables (hi ++ 2#2 ++ lo) ∧ f.version = 2#2 ∧
      versionName f.version = .mpeg2) ∧
    (∀ (hi : BitVec 11) (lo : BitVec 19), ∃ f,
      exec (.version3 hi lo) s = .next { s with outValid := true, out := some f } ∧
      f = closedForm tables (hi ++ 3#2 ++ lo) ∧ f.version = 3#2 ∧
      versionName f.version = .mpeg1) ∧
    (∀ (hi : BitVec 13) (lo : BitVec 17), ∃ f,
      exec (.layer0 hi lo) s = .next { s with outValid := true, out := some f } ∧
      f = closedForm tables (hi ++ 0#2 ++ lo) ∧ f.layer = 0#2 ∧ layerName f.layer = .reserved) ∧
    (∀ (hi : BitVec 13) (lo : BitVec 17), ∃ f,
      exec (.layer1 hi lo) s = .next { s with outValid := true, out := some f } ∧
      f = closedForm tables (hi ++ 1#2 ++ lo) ∧ f.layer = 1#2 ∧ layerName f.layer = .layerIII) ∧
    (∀ (hi : BitVec 13) (lo : BitVec 17), ∃ f,
      exec (.layer2 hi lo) s = .next { s with outValid := true, out := some f } ∧
      f = closedForm tables (hi ++ 2#2 ++ lo) ∧ f.layer = 2#2 ∧ layerName f.layer = .layerII) ∧
    (∀ (hi : BitVec 13) (lo : BitVec 17), ∃ f,
      exec (.layer3 hi lo) s = .next { s with outValid := true, out := some f } ∧
      f = closedForm tables (hi ++ 3#2 ++ lo) ∧ f.layer = 3#2 ∧ layerName f.layer = .layerI)

/-- R44 and R91 on headers presented in the protection classes and the all-ones sync class (class rows
as instructions: the model's reading, log entry 5). -/
def Obligations.ProtectionAndSyncRowsLoadTheirField : Prop :=
  ∀ s : State,
    (∀ (hi : BitVec 15) (lo : BitVec 16), ∃ f,
      exec (.prot0 hi lo) s = .next { s with outValid := true, out := some f } ∧
      f = closedForm tables (hi ++ 0#1 ++ lo) ∧ f.isProtected = true) ∧
    (∀ (hi : BitVec 15) (lo : BitVec 16), ∃ f,
      exec (.prot1 hi lo) s = .next { s with outValid := true, out := some f } ∧
      f = closedForm tables (hi ++ 1#1 ++ lo) ∧ f.isProtected = false) ∧
    (∀ lo : BitVec 21, ∃ f,
      exec (.syncOk lo) s = .next { s with outValid := true, out := some f } ∧
      f = closedForm tables (2047#11 ++ lo) ∧ f.frameSync = 0x7FF#11)

/-- R48, R51 on headers presented in each channel mode and emphasis class (class rows
as instructions: the model's reading, log entry 5). -/
def Obligations.ChannelModeAndEmphasisRowsLoadTheirCode : Prop :=
  ∀ s : State,
    (∀ (hi : BitVec 24) (lo : BitVec 6), ∃ f,
      exec (.chmode0 hi lo) s = .next { s with outValid := true, out := some f } ∧
      f = closedForm tables (hi ++ 0#2 ++ lo) ∧ f.channelMode = 0#2 ∧
      channelModeName f.channelMode = .stereo) ∧
    (∀ (hi : BitVec 24) (lo : BitVec 6), ∃ f,
      exec (.chmode1 hi lo) s = .next { s with outValid := true, out := some f } ∧
      f = closedForm tables (hi ++ 1#2 ++ lo) ∧ f.channelMode = 1#2 ∧
      channelModeName f.channelMode = .jointStereo) ∧
    (∀ (hi : BitVec 24) (lo : BitVec 6), ∃ f,
      exec (.chmode2 hi lo) s = .next { s with outValid := true, out := some f } ∧
      f = closedForm tables (hi ++ 2#2 ++ lo) ∧ f.channelMode = 2#2 ∧
      channelModeName f.channelMode = .dualChannel) ∧
    (∀ (hi : BitVec 24) (lo : BitVec 6), ∃ f,
      exec (.chmode3 hi lo) s = .next { s with outValid := true, out := some f } ∧
      f = closedForm tables (hi ++ 3#2 ++ lo) ∧ f.channelMode = 3#2 ∧
      channelModeName f.channelMode = .singleChannel) ∧
    (∀ hi : BitVec 30, ∃ f,
      exec (.emph0 hi) s = .next { s with outValid := true, out := some f } ∧
      f = closedForm tables (hi ++ 0#2) ∧ f.emphasis = 0#2 ∧ emphasisName f.emphasis = .none) ∧
    (∀ hi : BitVec 30, ∃ f,
      exec (.emph1 hi) s = .next { s with outValid := true, out := some f } ∧
      f = closedForm tables (hi ++ 1#2) ∧ f.emphasis = 1#2 ∧ emphasisName f.emphasis = .us50_15) ∧
    (∀ hi : BitVec 30, ∃ f,
      exec (.emph2 hi) s = .next { s with outValid := true, out := some f } ∧
      f = closedForm tables (hi ++ 2#2) ∧ f.emphasis = 2#2 ∧ emphasisName f.emphasis = .reserved) ∧
    (∀ hi : BitVec 30, ∃ f,
      exec (.emph3 hi) s = .next { s with outValid := true, out := some f } ∧
      f = closedForm tables (hi ++ 3#2) ∧ f.emphasis = 3#2 ∧ emphasisName f.emphasis = .ccitJ17)

/-- A class row is another name of DECODE's words: whatever row names a header, it does what DECODE
of that header does (the model's reading of the class rows, log entry 5). -/
def Obligations.ClassRowsDoWhatDecodeDoes : Prop :=
  ∀ (i : Instr) (h : HeaderWord) (s : State), headerWord i = some h →
    exec i s = exec (decodeHdr h) s

/-! ## Encoding -/

/-- R57 and the class rows: reading an encoded well-formed instruction as its row gives it back, for
every instruction and every operand. -/
def Obligations.DecodeOfEncodeIsIdentity : Prop :=
  ∀ i : Instr, i.wf = true → decodeRow i.row (encode i) = .ok i

/-- The other direction: whatever a row's decoder accepts is well-formed, of that row, and encodes
to the word it was read from. -/
def Obligations.EncodeOfDecodeIsIdentity : Prop :=
  ∀ (r : Row) (w : Nat) (i : Instr), decodeRow r w = .ok i →
    i.row = r ∧ i.wf = true ∧ encode i = w

/-- R59: every operand word of every operation decodes, and the instruction completes in every state. -/
def Obligations.EveryOperandWordHasAResult : Prop :=
  ∀ (r : Row) (w : Nat), r ∈ [Row.extract8, .extract16, .brlookup, .sflookup, .decode] →
    w < 2 ^ r.spec.width →
    ∃ i, decodeRow r w = .ok i ∧ ∀ s : State, ∃ t, exec i s = .next t

/-- R12, R112: a header is exactly four octets in stream order, and any other number is none. -/
def Obligations.OnlyFourOctetsAreAHeader : Prop :=
  ∀ (bs : List Octet) (i : Instr), decodeOctets bs = .ok i ↔
    ∃ b0 b1 b2 b3, bs = [b0, b1, b2, b3] ∧ i = decodeHdr (b0 ++ b1 ++ b2 ++ b3)

/-- A few words written out from the encodings of the spec decode to what they stand for. -/
def Obligations.WrittenOutWordsDecode : Prop :=
  decodeRow .extract8 0b0001010010110000 = .ok (.extract8 0xB0#8 4#3 (.exact 2)) ∧
  decodeRow .extract16 0b0000001011111111111111111 = .ok (.extract16 0xFFFF#16 5#4 .rest) ∧
  decodeRow .brlookup 0b11011001 = .ok (.brlookup 3#2 1#2 9#4) ∧
  decodeRow .sflookup 0b1101 = .ok (.sflookup 3#2 1#2) ∧
  decodeRow .decode 0xFFFB9064 = .ok (.decode 0xFF#8 0xFB#8 0x90#8 0x64#8) ∧
  decodeRow .brselV1L3 0xFFFB9064 = .ok (.brselV1L3 0x7FF#11 0b11001000001100100#17) ∧
  decodeRow .brselV1L1 0xFFFB9064 = .error .outsideClass

/-! ## The step -/

/-- When what the host presents next decodes to an instruction, the step is `exec` of it, at the
state with that input taken. That the host's inputs stand as a list in the state is the model's choice
(log entry 1). -/
def Obligations.StepRunsThePresentedInstruction : Prop :=
  ∀ (s : State) (e : Input) (rest : List Input) (i : Instr), decodeInput e = .operation i →
    step { s with inputs := e :: rest } = exec i { s with inputs := rest }

/-- Presenting any well-formed instruction, a class row too (log entry 5), makes the next step run
exactly it. -/
def Obligations.StepRunsEveryRowAsPresented : Prop :=
  ∀ (s : State) (rest : List Input) (i : Instr), i.wf = true →
    step { s with inputs := present i :: rest } = exec i { s with inputs := rest }

/-- R107: the three arms of the wrapper's step, `RST` first; with no header `IN_HDR` is ignored. The
edge sampled is the head of the model's list of inputs (log entry 1). -/
def Obligations.WrapperStepsAtEachEdge : Prop :=
  ∀ (s : State) (rest : List Input) (valid : Bool) (hdr : HeaderWord),
    step { s with inputs := .edge true valid hdr :: rest } =
      .next { s with inputs := rest, outValid := false, out := none } ∧
    step { s with inputs := .edge false true hdr :: rest } =
      .next { s with inputs := rest, outValid := true, out := some (closedForm tables hdr) } ∧
    step { s with inputs := .edge false false hdr :: rest } =
      .next { s with inputs := rest, outValid := false }

/-- When the host presents nothing more the clock goes on with no header: the model's choice (log
entry 1), and then R107. -/
def Obligations.NothingPresentedIsAnIdleEdge : Prop :=
  ∀ s : State, s.inputs = [] → step s = .next { s with outValid := false }

/-- A word of the opcode table placed by `withFetchWord` is what the very next step runs, from any
state (the numbering by width is the model's, log entry 8). -/
def Obligations.TableWordsRunNext : Prop :=
  ∀ (s : State) (nbits w : Nat) (i : Instr), decodeTableWord nbits w = some i →
    step (s.withFetchWord nbits w) = exec i s

/-- R109: no operation and no step faults or refuses, in any state. -/
def Obligations.NothingFaultsOrRefuses : Prop :=
  (∀ (i : Instr) (s : State), ∃ t, exec i s = .next t) ∧
  (∀ s : State, ∃ t, step s = .next t)

/-- The frame: an operation of a combinational module changes its own result port alone; a header
changes `OUT` and `OUT_VALID` alone (R11, R17, R23). -/
def Obligations.OperationsKeepTheirFrame : Prop :=
  ∀ (i : Instr) (s t : State), exec i s = .next t →
    t.inputs = s.inputs ∧
    (headerWord i = none → t.out = s.out ∧ t.outValid = s.outValid) ∧
    (i.row ≠ .extract8 → t.bitx8 = s.bitx8) ∧
    (i.row ≠ .extract16 → t.bitx16 = s.bitx16) ∧
    (i.row ≠ .brlookup → t.brtab = s.brtab) ∧
    (i.row ≠ .sflookup → t.sftab = s.sftab)

/-- R35: a result depends on the operation's own operands, never on earlier operations: run in two
states, it leaves the same value on its port or in `OUT`. -/
def Obligations.ResultsIgnoreHistory : Prop :=
  ∀ (i : Instr) (s s' t t' : State), exec i s = .next t → exec i s' = .next t' →
    (headerWord i ≠ none → t.out = t'.out ∧ t.outValid = t'.outValid) ∧
    (i.row = .extract8 → t.bitx8 = t'.bitx8) ∧
    (i.row = .extract16 → t.bitx16 = t'.bitx16) ∧
    (i.row = .brlookup → t.brtab = t'.brtab) ∧
    (i.row = .sflookup → t.sftab = t'.sftab)

/-! ## 60_exceptions.md, 70_reset_and_hazards.md, whole-machine rules -/

/-- R110: each in-band condition's cause gives its report; where a report has several causes it has
no others; for every configuration the spec allows. -/
def Obligations.InBandConditionsAreReported : Prop :=
  ∀ (c : Config) (h : HeaderWord), configOk c = true →
    (∀ k, conditionCause k h = true → conditionReport k (decodeWord c h) = true) ∧
    ((decodeWord c h).bitRateKbps = 0 → conditionCause .freeFormat h = true) ∧
    ((decodeWord c h).bitRateKbps = -1 →
      conditionCause .badBitRateIndex h = true ∨ conditionCause .unsupportedPair h = true) ∧
    ((decodeWord c h).samplingFrequencyHz = -1 →
      conditionCause .reservedSamplingIndex h = true ∨
        conditionCause .reservedVersionSampling h = true) ∧
    (conditionReport .reservedVersion (decodeWord c h) = conditionCause .reservedVersion h) ∧
    (conditionReport .reservedLayer (decodeWord c h) = conditionCause .reservedLayer h) ∧
    (conditionReport .reservedEmphasis (decodeWord c h) = conditionCause .reservedEmphasis h)

/-- R126: what reset leaves: `OUT_VALID = 0` and "no value; a read before the first load is a fault
of the reader". -/
def Obligations.ResetLeavesOutUnloaded : Prop :=
  State.reset.outValid = false ∧ State.reset.out = none ∧
    readOut State.reset = .error .outNotLoaded

/-- R136 with R24: from any state, after a reset edge and any inputs that load no header, a read of
`OUT` faults; after a header and any inputs without a reset edge, it answers a record. The list of
inputs is the model's (log entry 1). -/
def Obligations.ReadsFaultExactlyUntilLoaded : Prop :=
  ∀ (s : State) (es rest : List Input) (valid : Bool) (h hdr : HeaderWord),
    ((∀ k, Input.edge false true k ∉ es) →
      ∃ t, Host.Core.run Sys2Proof.core (es.length + 1)
          { s with inputs := .edge true valid hdr :: (es ++ rest) } = .next t ∧
        t.inputs = rest ∧ readOut t = .error .outNotLoaded) ∧
    ((∀ v k, Input.edge true v k ∉ es) →
      ∃ t f, Host.Core.run Sys2Proof.core (es.length + 1)
          { s with inputs := .edge false true h :: (es ++ rest) } = .next t ∧
        t.inputs = rest ∧ readOut t = .ok f)

/-- R24 and R129: after any list of inputs, from any state, `OUT` holds the closed form of the most
recent accepted header, nothing after a later reset, or what it held; `OUT_VALID` says whether the
latest edge accepted a header. The list of inputs is the model's (log entry 1). -/
def Obligations.OutHoldsMostRecentHeader : Prop :=
  ∀ (s : State) (es rest : List Input),
    ∃ t, Host.Core.run Sys2Proof.core es.length { s with inputs := es ++ rest } = .next t ∧
      t.inputs = rest ∧
      t.out = (match lastWrite es with
        | none => s.out
        | some none => none
        | some (some h) => some (closedForm tables h)) ∧
      t.outValid = (match lastEdgeAccepts es with
        | none => s.outValid
        | some b => b)

/-- R131 (the spec's own derivation): a header is usable exactly when its index is neither 0 nor 15,
its pair selects a table and its sampling index is not 3; for every configuration the spec allows. -/
def Obligations.UsableHeadersCharacterised : Prop :=
  ∀ (c : Config) (h : HeaderWord), configOk c = true →
    (usable (decodeWord c h) = true ↔
      h.extractLsb' 12 4 ≠ 0#4 ∧ h.extractLsb' 12 4 ≠ 15#4 ∧ h.extractLsb' 19 2 ≠ 1#2 ∧
        h.extractLsb' 17 2 ≠ 0#2 ∧ h.extractLsb' 10 2 ≠ 3#2)

/-- R131 to R134: the host's checks on a record are tests of the header's bits: the sync pattern
(`SYNC.OK`), the protection bit, the reserved codes, and "non-negative" for "not invalid". -/
def Obligations.HostChecksTestTheHeader : Prop :=
  ∀ (c : Config) (h : HeaderWord), configOk c = true →
    syncOk (decodeWord c h) = Row.syncOk.applies h ∧
    crcFollows (decodeWord c h) = Row.prot0.applies h ∧
    reservedCode (decodeWord c h) =
      (Row.version1.applies h || Row.layer0.applies h || Row.emph2.applies h) ∧
    (notInvalid (decodeWord c h) = true ↔
      conditionCause .badBitRateIndex h = false ∧ conditionCause .unsupportedPair h = false ∧
      conditionCause .reservedSamplingIndex h = false ∧
      conditionCause .reservedVersionSampling h = false)

/-- R134 (the spec's own derivation), in every state that meets the invariant: a reserved version in
`OUT` comes with -1 Hz, a reserved version or layer with a rate of 0 or -1. It does not say that the
integers reveal a reserved code: with a reserved layer, a valid version and index 0 they do not
(`IntegersDoNotRevealTheLayerAtIndexZero`). -/
def Obligations.ReservedVersionOrLayerComesWithSentinelRate : Prop :=
  ∀ (s : State) (f : FrameHeader), Inv s → s.out = some f →
    (f.version = 1#2 → f.samplingFrequencyHz = -1) ∧
    (f.version = 1#2 ∨ f.layer = 0#2 → f.bitRateKbps = 0 ∨ f.bitRateKbps = -1)

/-- R15, R17, R24 as an invariant: every step keeps it, from every state that meets it. -/
def Obligations.EveryStepKeepsTheInvariant : Prop :=
  ∀ s t : State, Inv s → step s = .next t → Inv t

/-- The invariant holds at reset. The values of the lookup ports there are the model's choice (log
entry 3); `OUT_VALID` and `OUT` are the spec's (R24). -/
def Obligations.ResetMeetsTheInvariant : Prop :=
  Inv State.reset

/-- R115 (c) with R104: between fields there is no precedence. For every configuration and header,
replacing the version, the layer, the bit-rate index or the sampling-frequency index by any code, a
reserved one included, changes the code's own field and the integers looked up from it, to the lookup
at the new code, and no other field ("a reserved version does not blank the channel mode"). -/
def Obligations.CodesAndIndicesChangeOnlyTheirFields : Prop :=
  (∀ (c : Config) (sync : BitVec 11) (v v' : Code2) (lo : BitVec 19),
    decodeWord c (sync ++ v' ++ lo) = { decodeWord c (sync ++ v ++ lo) with
      version := v'
      bitRateKbps := bitRate c v' (lo.extractLsb' 17 2) (lo.extractLsb' 12 4).toNat
      samplingFrequencyHz := samplingFrequency c v' (lo.extractLsb' 10 2).toNat }) ∧
  (∀ (c : Config) (hi : BitVec 13) (l l' : Code2) (lo : BitVec 17),
    decodeWord c (hi ++ l' ++ lo) = { decodeWord c (hi ++ l ++ lo) with
      layer := l'
      bitRateKbps := bitRate c (hi.extractLsb' 0 2) l' (lo.extractLsb' 12 4).toNat }) ∧
  (∀ (c : Config) (hi : BitVec 16) (n n' : BitVec 4) (lo : BitVec 12),
    decodeWord c (hi ++ n' ++ lo) = { decodeWord c (hi ++ n ++ lo) with
      bitRateKbps := bitRate c (hi.extractLsb' 3 2) (hi.extractLsb' 1 2) n'.toNat }) ∧
  (∀ (c : Config) (hi : BitVec 20) (j j' : Code2) (lo : BitVec 10),
    decodeWord c (hi ++ j' ++ lo) = { decodeWord c (hi ++ j ++ lo) with
      samplingFrequencyHz := samplingFrequency c (hi.extractLsb' 7 2) j'.toNat })

/-- R134's last clause: at bit-rate index 0 the two integers are the same whatever the layer code, so
they do not reveal a reserved layer, and the host must look at `layer` itself; the rate is 0, and with
a valid version and sampling index the frequency is positive, so no sentinel but 0 is there to see. -/
def Obligations.IntegersDoNotRevealTheLayerAtIndexZero : Prop :=
  ∀ (c : Config) (hi : BitVec 13) (l : Code2) (lo : BitVec 17), lo.extractLsb' 12 4 = 0#4 →
    (decodeWord c (hi ++ l ++ lo)).layer = l ∧
    (decodeWord c (hi ++ l ++ lo)).bitRateKbps = 0 ∧
    (decodeWord c (hi ++ l ++ lo)).samplingFrequencyHz =
      (decodeWord c (hi ++ 0#2 ++ lo)).samplingFrequencyHz ∧
    (configOk c = true → hi.extractLsb' 0 2 ≠ 1#2 → lo.extractLsb' 10 2 ≠ 3#2 →
      0 < (decodeWord c (hi ++ 0#2 ++ lo)).samplingFrequencyHz)
end

