-- ==== Sys2Proof/Laws/Operands.lean ====
section
/-! SUPPORT. The Bit Extractor bit by bit and as a number, and the selector on its port. -/

namespace Sys2Proof.Machine

/-- The mask of `Exact(n)` sets the low `n` bits (R67). -/
theorem getLsbD_exactMask (W n i : Nat) :
    (exactMask W n).getLsbD i = (decide (i < W) && decide (i < n)) := by
  simp [exactMask, BitVec.getLsbD_ofNat, Nat.testBit_two_pow_sub_one]

/-- Bit `i` of the `Rest` field is bit `offset + i` of the value. -/
theorem getLsbD_extractW_rest {W : Nat} (value : BitVec W) (offset i : Nat) :
    (extractW value offset .rest).getLsbD i = value.getLsbD (offset + i) := by
  simp [extractW]

/-- Bit `i` of an `n`-bit field is bit `offset + i` of the value below `n`, and 0 from there on. -/
theorem getLsbD_extractW_exact {W : Nat} (value : BitVec W) (offset n i : Nat) :
    (extractW value offset (.exact n)).getLsbD i =
      (value.getLsbD (offset + i) && decide (i < n)) := by
  have hlt := @BitVec.lt_of_getLsbD W value (offset + i)
  simp only [extractW, BitVec.getLsbD_and, BitVec.getLsbD_ushiftRight, getLsbD_exactMask]
  cases h : value.getLsbD (offset + i)
  · rfl
  · have := hlt h
    simp [show i < W by omega]

/-- The `Rest` field as a number. -/
theorem toNat_extractW_rest {W : Nat} (value : BitVec W) (offset : Nat) :
    (extractW value offset .rest).toNat = value.toNat / 2 ^ offset := by
  simp [extractW, BitVec.toNat_ushiftRight, Nat.shiftRight_eq_div_pow]

/-- An `n`-bit field as a number. -/
theorem toNat_extractW_exact {W : Nat} (value : BitVec W) (offset n : Nat) :
    (extractW value offset (.exact n)).toNat = value.toNat / 2 ^ offset % 2 ^ n := by
  rw [← toNat_extractW_rest]
  refine Nat.eq_of_testBit_eq fun i => ?_
  rw [BitVec.testBit_toNat, getLsbD_extractW_exact, Nat.testBit_mod_two_pow, BitVec.testBit_toNat,
    getLsbD_extractW_rest, Bool.and_comm]

/-- A selector read off the port goes back to its port value (R55: no port value is reserved). -/
theorem wselOfWidth_widthOfWsel (w : BitVec 5) : wselOfWidth (widthOfWsel w) = w := by
  revert w; decide

/-- A well-formed selector survives the port. -/
theorem widthOfWsel_wselOfWidth {w : Width} (h : w.wf = true) :
    widthOfWsel (wselOfWidth w) = w := by
  cases w with
  | rest => rfl
  | exact n =>
    simp only [Width.wf, Bool.and_eq_true, decide_eq_true_eq] at h
    obtain ⟨h1, h2⟩ := h
    interval_cases n <;> rfl

/-- Whatever the port holds is a well-formed selector (R55). -/
theorem widthOfWsel_wf (w : BitVec 5) : (widthOfWsel w).wf = true := by
  revert w; decide

/-- A masked comparison over a header is a comparison of one field, where the mask covers exactly the
field's bits and the pattern is its code in place. -/
theorem masked_eq_iff_field (h m p : BitVec 32) (l n : Nat) (code : BitVec n)
    (hm : ∀ i : Fin 32, m.getLsbD i = (decide (l ≤ i.val) && decide (i.val < l + n)))
    (hp : ∀ i : Fin 32, p.getLsbD i = (decide (l ≤ i.val) && code.getLsbD (i.val - l)))
    (hn : l + n ≤ 32) : (h &&& m == p) = decide (h.extractLsb' l n = code) := by
  rw [Bool.eq_iff_iff, beq_iff_eq, decide_eq_true_eq]
  constructor
  · intro e
    refine BitVec.eq_of_getLsbD_eq fun i hi => ?_
    have := congrArg (fun x => x.getLsbD (l + i)) e
    simp only [BitVec.getLsbD_and] at this
    rw [hm ⟨l + i, by omega⟩, hp ⟨l + i, by omega⟩] at this
    simpa [hi] using this
  · intro e
    refine BitVec.eq_of_getLsbD_eq fun i hi => ?_
    rw [BitVec.getLsbD_and, hm ⟨i, hi⟩, hp ⟨i, hi⟩, ← e]
    by_cases h1 : l ≤ i <;> by_cases h2 : i < l + n <;> simp [h1, h2, hi] <;> intros <;> omega

end Sys2Proof.Machine
end

