-- ==== Sys2Proof/Laws/PerInstr.lean ====
section
/-! SUPPORT. The family EncodesRow, one lemma per instruction: its encoded word fits the operand port
of its row, and is the header word it presents where it presents one. -/

namespace Sys2Proof.Laws.EncodesRow

/-- The encoded word of an instruction fits its row's port (R57), and is the header it presents. -/
def Statement (i : Instr) : Prop :=
  encode i < 2 ^ i.row.spec.width ∧ ∀ h, headerWord i = some h → encode i = h.toNat

/-- What a presented word of a port's width gives, once for all instructions. -/
theorem of_word {i : Instr} {n : Nat} (w : BitVec n) (hn : i.row.spec.width = n)
    (hw : encode i = w.toNat) (hh : ∀ h, headerWord i = some h → w.toNat = h.toNat) : Statement i :=
  ⟨by rw [hn, hw]; exact w.isLt, fun h e => hw.trans (hh h e)⟩

theorem extract8 (value : Octet) (offset : BitVec 3) (width : Width) :
    Statement (.extract8 value offset width) :=
  of_word (wselOfWidth width ++ offset ++ value) rfl rfl nofun

theorem extract16 (value : Word16) (offset : BitVec 4) (width : Width) :
    Statement (.extract16 value offset width) :=
  of_word (wselOfWidth width ++ offset ++ value) rfl rfl nofun

theorem brlookup (version layer : Code2) (index : BitVec 4) :
    Statement (.brlookup version layer index) :=
  of_word (version ++ layer ++ index) rfl rfl nofun

theorem sflookup (version index : Code2) :
    Statement (.sflookup version index) :=
  of_word (version ++ index) rfl rfl nofun

theorem decode (b0 b1 b2 b3 : Octet) : Statement (.decode b0 b1 b2 b3) :=
  of_word (b0 ++ b1 ++ b2 ++ b3) rfl rfl (by rintro _ ⟨⟩; rfl)

theorem brselV1L1 (hi : BitVec 11) (lo : BitVec 17) : Statement (.brselV1L1 hi lo) :=
  of_word (hi ++ 15#4 ++ lo) rfl rfl (by rintro _ ⟨⟩; rfl)

theorem brselV1L2 (hi : BitVec 11) (lo : BitVec 17) : Statement (.brselV1L2 hi lo) :=
  of_word (hi ++ 14#4 ++ lo) rfl rfl (by rintro _ ⟨⟩; rfl)

theorem brselV1L3 (hi : BitVec 11) (lo : BitVec 17) : Statement (.brselV1L3 hi lo) :=
  of_word (hi ++ 13#4 ++ lo) rfl rfl (by rintro _ ⟨⟩; rfl)

theorem brselV2L1 (hi : BitVec 12) (lo : BitVec 17) : Statement (.brselV2L1 hi lo) :=
  of_word (hi ++ 3#3 ++ lo) rfl rfl (by rintro _ ⟨⟩; rfl)

theorem brselV2L2 (hi : BitVec 12) (lo : BitVec 17) : Statement (.brselV2L2 hi lo) :=
  of_word (hi ++ 2#3 ++ lo) rfl rfl (by rintro _ ⟨⟩; rfl)

theorem brselV2L3 (hi : BitVec 12) (lo : BitVec 17) : Statement (.brselV2L3 hi lo) :=
  of_word (hi ++ 1#3 ++ lo) rfl rfl (by rintro _ ⟨⟩; rfl)

theorem brselRsvV (hi : BitVec 11) (lo : BitVec 19) : Statement (.brselRsvV hi lo) :=
  of_word (hi ++ 1#2 ++ lo) rfl rfl (by rintro _ ⟨⟩; rfl)

theorem brselRsvL (hi : BitVec 13) (lo : BitVec 17) : Statement (.brselRsvL hi lo) :=
  of_word (hi ++ 0#2 ++ lo) rfl rfl (by rintro _ ⟨⟩; rfl)

theorem sfselV1 (hi : BitVec 11) (lo : BitVec 19) : Statement (.sfselV1 hi lo) :=
  of_word (hi ++ 3#2 ++ lo) rfl rfl (by rintro _ ⟨⟩; rfl)

theorem sfselV2 (hi : BitVec 11) (lo : BitVec 19) : Statement (.sfselV2 hi lo) :=
  of_word (hi ++ 2#2 ++ lo) rfl rfl (by rintro _ ⟨⟩; rfl)

theorem sfselV25 (hi : BitVec 11) (lo : BitVec 19) : Statement (.sfselV25 hi lo) :=
  of_word (hi ++ 0#2 ++ lo) rfl rfl (by rintro _ ⟨⟩; rfl)

theorem sfselRsvV (hi : BitVec 11) (lo : BitVec 19) : Statement (.sfselRsvV hi lo) :=
  of_word (hi ++ 1#2 ++ lo) rfl rfl (by rintro _ ⟨⟩; rfl)

theorem bridxFree (hi : BitVec 16) (lo : BitVec 12) : Statement (.bridxFree hi lo) :=
  of_word (hi ++ 0#4 ++ lo) rfl rfl (by rintro _ ⟨⟩; rfl)

theorem bridxBad (hi : BitVec 16) (lo : BitVec 12) : Statement (.bridxBad hi lo) :=
  of_word (hi ++ 15#4 ++ lo) rfl rfl (by rintro _ ⟨⟩; rfl)

theorem sfidxRsv (hi : BitVec 20) (lo : BitVec 10) : Statement (.sfidxRsv hi lo) :=
  of_word (hi ++ 3#2 ++ lo) rfl rfl (by rintro _ ⟨⟩; rfl)

theorem version0 (hi : BitVec 11) (lo : BitVec 19) : Statement (.version0 hi lo) :=
  of_word (hi ++ 0#2 ++ lo) rfl rfl (by rintro _ ⟨⟩; rfl)

theorem version1 (hi : BitVec 11) (lo : BitVec 19) : Statement (.version1 hi lo) :=
  of_word (hi ++ 1#2 ++ lo) rfl rfl (by rintro _ ⟨⟩; rfl)

theorem version2 (hi : BitVec 11) (lo : BitVec 19) : Statement (.version2 hi lo) :=
  of_word (hi ++ 2#2 ++ lo) rfl rfl (by rintro _ ⟨⟩; rfl)

theorem version3 (hi : BitVec 11) (lo : BitVec 19) : Statement (.version3 hi lo) :=
  of_word (hi ++ 3#2 ++ lo) rfl rfl (by rintro _ ⟨⟩; rfl)

theorem layer0 (hi : BitVec 13) (lo : BitVec 17) : Statement (.layer0 hi lo) :=
  of_word (hi ++ 0#2 ++ lo) rfl rfl (by rintro _ ⟨⟩; rfl)

theorem layer1 (hi : BitVec 13) (lo : BitVec 17) : Statement (.layer1 hi lo) :=
  of_word (hi ++ 1#2 ++ lo) rfl rfl (by rintro _ ⟨⟩; rfl)

theorem layer2 (hi : BitVec 13) (lo : BitVec 17) : Statement (.layer2 hi lo) :=
  of_word (hi ++ 2#2 ++ lo) rfl rfl (by rintro _ ⟨⟩; rfl)

theorem layer3 (hi : BitVec 13) (lo : BitVec 17) : Statement (.layer3 hi lo) :=
  of_word (hi ++ 3#2 ++ lo) rfl rfl (by rintro _ ⟨⟩; rfl)

theorem prot0 (hi : BitVec 15) (lo : BitVec 16) : Statement (.prot0 hi lo) :=
  of_word (hi ++ 0#1 ++ lo) rfl rfl (by rintro _ ⟨⟩; rfl)

theorem prot1 (hi : BitVec 15) (lo : BitVec 16) : Statement (.prot1 hi lo) :=
  of_word (hi ++ 1#1 ++ lo) rfl rfl (by rintro _ ⟨⟩; rfl)

theorem chmode0 (hi : BitVec 24) (lo : BitVec 6) : Statement (.chmode0 hi lo) :=
  of_word (hi ++ 0#2 ++ lo) rfl rfl (by rintro _ ⟨⟩; rfl)

theorem chmode1 (hi : BitVec 24) (lo : BitVec 6) : Statement (.chmode1 hi lo) :=
  of_word (hi ++ 1#2 ++ lo) rfl rfl (by rintro _ ⟨⟩; rfl)

theorem chmode2 (hi : BitVec 24) (lo : BitVec 6) : Statement (.chmode2 hi lo) :=
  of_word (hi ++ 2#2 ++ lo) rfl rfl (by rintro _ ⟨⟩; rfl)

theorem chmode3 (hi : BitVec 24) (lo : BitVec 6) : Statement (.chmode3 hi lo) :=
  of_word (hi ++ 3#2 ++ lo) rfl rfl (by rintro _ ⟨⟩; rfl)

theorem emph0 (hi : BitVec 30) : Statement (.emph0 hi) :=
  of_word (hi ++ 0#2) rfl rfl (by rintro _ ⟨⟩; rfl)

theorem emph1 (hi : BitVec 30) : Statement (.emph1 hi) :=
  of_word (hi ++ 1#2) rfl rfl (by rintro _ ⟨⟩; rfl)

theorem emph2 (hi : BitVec 30) : Statement (.emph2 hi) :=
  of_word (hi ++ 2#2) rfl rfl (by rintro _ ⟨⟩; rfl)

theorem emph3 (hi : BitVec 30) : Statement (.emph3 hi) :=
  of_word (hi ++ 3#2) rfl rfl (by rintro _ ⟨⟩; rfl)

theorem syncOk (lo : BitVec 21) : Statement (.syncOk lo) :=
  of_word (2047#11 ++ lo) rfl rfl (by rintro _ ⟨⟩; rfl)

end Sys2Proof.Laws.EncodesRow
end

