-- ==== Sys2Proof/Laws/State.lean ====
section
/-! SUPPORT. One lemma per field per update of the state, so that no proof unfolds a record update. -/

namespace Sys2Proof.Machine

@[simp] theorem setOutValid_outValid (b : Bool) (s : State) : (setOutValid b s).outValid = b := rfl
@[simp] theorem setOutValid_out (b : Bool) (s : State) : (setOutValid b s).out = s.out := rfl
@[simp] theorem setOutValid_bitx8 (b : Bool) (s : State) : (setOutValid b s).bitx8 = s.bitx8 := rfl
@[simp] theorem setOutValid_bitx16 (b : Bool) (s : State) : (setOutValid b s).bitx16 = s.bitx16 := rfl
@[simp] theorem setOutValid_brtab (b : Bool) (s : State) : (setOutValid b s).brtab = s.brtab := rfl
@[simp] theorem setOutValid_sftab (b : Bool) (s : State) : (setOutValid b s).sftab = s.sftab := rfl
@[simp] theorem setOutValid_inputs (b : Bool) (s : State) : (setOutValid b s).inputs = s.inputs := rfl

@[simp] theorem loadOut_outValid (f : FrameHeader) (s : State) : (loadOut f s).outValid = true := rfl
@[simp] theorem loadOut_out (f : FrameHeader) (s : State) : (loadOut f s).out = some f := rfl
@[simp] theorem loadOut_bitx8 (f : FrameHeader) (s : State) : (loadOut f s).bitx8 = s.bitx8 := rfl
@[simp] theorem loadOut_bitx16 (f : FrameHeader) (s : State) : (loadOut f s).bitx16 = s.bitx16 := rfl
@[simp] theorem loadOut_brtab (f : FrameHeader) (s : State) : (loadOut f s).brtab = s.brtab := rfl
@[simp] theorem loadOut_sftab (f : FrameHeader) (s : State) : (loadOut f s).sftab = s.sftab := rfl
@[simp] theorem loadOut_inputs (f : FrameHeader) (s : State) : (loadOut f s).inputs = s.inputs := rfl

@[simp] theorem resetEdge_outValid (s : State) : (resetEdge s).outValid = false := rfl
@[simp] theorem resetEdge_out (s : State) : (resetEdge s).out = none := rfl
@[simp] theorem resetEdge_bitx8 (s : State) : (resetEdge s).bitx8 = s.bitx8 := rfl
@[simp] theorem resetEdge_bitx16 (s : State) : (resetEdge s).bitx16 = s.bitx16 := rfl
@[simp] theorem resetEdge_brtab (s : State) : (resetEdge s).brtab = s.brtab := rfl
@[simp] theorem resetEdge_sftab (s : State) : (resetEdge s).sftab = s.sftab := rfl
@[simp] theorem resetEdge_inputs (s : State) : (resetEdge s).inputs = s.inputs := rfl

@[simp] theorem idleEdge_outValid (s : State) : (idleEdge s).outValid = false := rfl
@[simp] theorem idleEdge_out (s : State) : (idleEdge s).out = s.out := rfl
@[simp] theorem idleEdge_bitx8 (s : State) : (idleEdge s).bitx8 = s.bitx8 := rfl
@[simp] theorem idleEdge_bitx16 (s : State) : (idleEdge s).bitx16 = s.bitx16 := rfl
@[simp] theorem idleEdge_brtab (s : State) : (idleEdge s).brtab = s.brtab := rfl
@[simp] theorem idleEdge_sftab (s : State) : (idleEdge s).sftab = s.sftab := rfl
@[simp] theorem idleEdge_inputs (s : State) : (idleEdge s).inputs = s.inputs := rfl

@[simp] theorem driveBitx8_outValid (r : BitVec 8) (s : State) : (driveBitx8 r s).outValid = s.outValid := rfl
@[simp] theorem driveBitx8_out (r : BitVec 8) (s : State) : (driveBitx8 r s).out = s.out := rfl
@[simp] theorem driveBitx8_bitx8 (r : BitVec 8) (s : State) : (driveBitx8 r s).bitx8 = r := rfl
@[simp] theorem driveBitx8_bitx16 (r : BitVec 8) (s : State) : (driveBitx8 r s).bitx16 = s.bitx16 := rfl
@[simp] theorem driveBitx8_brtab (r : BitVec 8) (s : State) : (driveBitx8 r s).brtab = s.brtab := rfl
@[simp] theorem driveBitx8_sftab (r : BitVec 8) (s : State) : (driveBitx8 r s).sftab = s.sftab := rfl
@[simp] theorem driveBitx8_inputs (r : BitVec 8) (s : State) : (driveBitx8 r s).inputs = s.inputs := rfl

@[simp] theorem driveBitx16_outValid (r : BitVec 16) (s : State) : (driveBitx16 r s).outValid = s.outValid := rfl
@[simp] theorem driveBitx16_out (r : BitVec 16) (s : State) : (driveBitx16 r s).out = s.out := rfl
@[simp] theorem driveBitx16_bitx8 (r : BitVec 16) (s : State) : (driveBitx16 r s).bitx8 = s.bitx8 := rfl
@[simp] theorem driveBitx16_bitx16 (r : BitVec 16) (s : State) : (driveBitx16 r s).bitx16 = r := rfl
@[simp] theorem driveBitx16_brtab (r : BitVec 16) (s : State) : (driveBitx16 r s).brtab = s.brtab := rfl
@[simp] theorem driveBitx16_sftab (r : BitVec 16) (s : State) : (driveBitx16 r s).sftab = s.sftab := rfl
@[simp] theorem driveBitx16_inputs (r : BitVec 16) (s : State) : (driveBitx16 r s).inputs = s.inputs := rfl

@[simp] theorem driveBrtab_outValid (r : Int) (s : State) : (driveBrtab r s).outValid = s.outValid := rfl
@[simp] theorem driveBrtab_out (r : Int) (s : State) : (driveBrtab r s).out = s.out := rfl
@[simp] theorem driveBrtab_bitx8 (r : Int) (s : State) : (driveBrtab r s).bitx8 = s.bitx8 := rfl
@[simp] theorem driveBrtab_bitx16 (r : Int) (s : State) : (driveBrtab r s).bitx16 = s.bitx16 := rfl
@[simp] theorem driveBrtab_brtab (r : Int) (s : State) : (driveBrtab r s).brtab = r := rfl
@[simp] theorem driveBrtab_sftab (r : Int) (s : State) : (driveBrtab r s).sftab = s.sftab := rfl
@[simp] theorem driveBrtab_inputs (r : Int) (s : State) : (driveBrtab r s).inputs = s.inputs := rfl

@[simp] theorem driveSftab_outValid (r : Int) (s : State) : (driveSftab r s).outValid = s.outValid := rfl
@[simp] theorem driveSftab_out (r : Int) (s : State) : (driveSftab r s).out = s.out := rfl
@[simp] theorem driveSftab_bitx8 (r : Int) (s : State) : (driveSftab r s).bitx8 = s.bitx8 := rfl
@[simp] theorem driveSftab_bitx16 (r : Int) (s : State) : (driveSftab r s).bitx16 = s.bitx16 := rfl
@[simp] theorem driveSftab_brtab (r : Int) (s : State) : (driveSftab r s).brtab = s.brtab := rfl
@[simp] theorem driveSftab_sftab (r : Int) (s : State) : (driveSftab r s).sftab = r := rfl
@[simp] theorem driveSftab_inputs (r : Int) (s : State) : (driveSftab r s).inputs = s.inputs := rfl

end Sys2Proof.Machine
end

