-- ==== Sys2Proof/Laws/Step.lean ====
section
/-! SUPPORT. Once for all: what taking the next input, an instruction and a step can do. -/

namespace Sys2Proof.Machine

theorem nextEvent_nil {s : State} (h : s.inputs = []) : nextEvent s = (.idle, s) := by
  simp [nextEvent, h]

theorem nextEvent_cons (s : State) (e : Input) (rest : List Input) :
    nextEvent { s with inputs := e :: rest } = (decodeInput e, { s with inputs := rest }) := rfl

theorem readOut_eq_ok_iff (s : State) (f : FrameHeader) : readOut s = .ok f ↔ s.out = some f := by
  unfold readOut; split <;> simp [*]

theorem readOut_eq_error_iff (s : State) (r : Fault) : readOut s = .error r ↔ s.out = none := by
  cases r
  unfold readOut; split <;> simp [*]

/-- Everything an instruction can do: load a record at an edge, or drive one result port. -/
theorem exec_inv {i : Instr} {s t : State} (h : exec i s = .next t) :
    (∃ f, t = loadOut f s) ∨ (∃ r, t = driveBitx8 r s) ∨ (∃ r, t = driveBitx16 r s) ∨
      (∃ v l n, t = driveBrtab (bitRate tables v l n) s) ∨
      (∃ v n, t = driveSftab (samplingFrequency tables v n) s) := by
  cases i <;> cases h
  case extract8 => exact .inr (.inl ⟨_, rfl⟩)
  case extract16 => exact .inr (.inr (.inl ⟨_, rfl⟩))
  case brlookup => exact .inr (.inr (.inr (.inl ⟨_, _, _, rfl⟩)))
  case sflookup => exact .inr (.inr (.inr (.inr ⟨_, _, rfl⟩)))
  all_goals exact .inl ⟨_, rfl⟩

/-- Everything a step can do (R107, R137): a reset edge, an idle edge, or the presented instruction. -/
theorem step_inv {s t : State} (h : step s = .next t) :
    (∃ s', nextEvent s = (.reset, s') ∧ t = resetEdge s') ∨
      (∃ s', nextEvent s = (.idle, s') ∧ t = idleEdge s') ∨
      (∃ i s', nextEvent s = (.operation i, s') ∧ exec i s' = .next t) := by
  unfold step at h
  split at h
  · rename_i s' hs; cases h; exact .inl ⟨s', hs, rfl⟩
  · rename_i s' hs; cases h; exact .inr (.inl ⟨s', hs, rfl⟩)
  · rename_i i s' hs; exact .inr (.inr ⟨i, s', hs, h⟩)

end Sys2Proof.Machine
end

