-- ==== Sys2Proof/Laws/Tables.lean ====
section
/-! SUPPORT. What the lookups can answer, for every configuration. -/

namespace Sys2Proof.Machine

/-- The pairs that select no table: a reserved version or a reserved layer (R72). -/
theorem brSelect_eq_none_iff (version layer : Code2) :
    brSelect version layer = none ↔ version = 1#2 ∨ layer = 0#2 := by
  revert version layer; decide

/-- The version that selects no table (R83). -/
theorem sfSelect_eq_none_iff (version : Code2) : sfSelect version = none ↔ version = 1#2 := by
  revert version; decide

/-- Inside its table a bit-rate read answers the entry (R26). -/
theorem brRead_of_lt (c : Config) (t : BrTable) {index : Nat} (h : index - 1 < 14) :
    brRead c t index = ((brRom c t)[index - 1] : Int) := by
  simp [brRead, h]

/-- Inside its table a sampling-frequency read answers the entry (R27). -/
theorem sfRead_of_lt (c : Config) (t : SfTable) {index : Nat} (h : index < 3) :
    sfRead c t index = ((sfRom c t)[index] : Int) := by
  simp [sfRead, h]

/-- Everything a bit-rate lookup can answer (R15, R73). -/
theorem legalBitRate_bitRate (c : Config) (version layer : Code2) (index : Nat) :
    legalBitRate c version layer (bitRate c version layer index) := by
  unfold bitRate bitRateFrom
  split
  · exact .inl rfl
  split
  · exact .inr (.inl rfl)
  split
  · exact .inr (.inl rfl)
  · rename_i t ht
    unfold brRead
    split
    · rename_i n hn
      exact .inr (.inr ⟨t, n, ht, by simpa using Vector.mem_of_getElem? hn, rfl⟩)
    · exact .inr (.inl rfl)

/-- Everything a sampling-frequency lookup can answer (R15, R82). -/
theorem legalSamplingFrequency_samplingFrequency (c : Config) (version : Code2) (index : Nat) :
    legalSamplingFrequency c version (samplingFrequency c version index) := by
  unfold samplingFrequency samplingFrequencyFrom
  split
  · exact .inl rfl
  · rename_i t ht
    split
    · exact .inl rfl
    unfold sfRead
    split
    · rename_i n hn
      exact .inr ⟨t, n, ht, by simpa using Vector.mem_of_getElem? hn, rfl⟩
    · exact .inl rfl

/-- The machine's tables are a configuration the spec allows (D14). -/
theorem configOk_tables : configOk tables = true := by decide

/-- In an allowed configuration every bit-rate entry is positive (R26). -/
theorem brRom_pos {c : Config} (h : configOk c = true) {t : BrTable} {n : Nat}
    (hn : n ∈ (brRom c t).toList) : 0 < n := by
  simp only [configOk, Bool.and_eq_true, List.all_cons, List.all_nil, List.all_eq_true,
    decide_eq_true_eq, and_true] at h
  obtain ⟨⟨⟨⟨h1, h2, h3, h4, h5⟩, -⟩, -⟩, -⟩ := h
  cases t
  exacts [h1 n hn, h2 n hn, h3 n hn, h4 n hn, h5 n hn]

/-- In an allowed configuration every sampling-frequency entry is positive (R27). -/
theorem sfRom_pos {c : Config} (h : configOk c = true) {t : SfTable} {n : Nat}
    (hn : n ∈ (sfRom c t).toList) : 0 < n := by
  simp only [configOk, Bool.and_eq_true, List.all_cons, List.all_nil, List.all_eq_true,
    decide_eq_true_eq, and_true] at h
  obtain ⟨⟨⟨-, h1, h2, h3⟩, -⟩, -⟩ := h
  cases t
  exacts [h1 n hn, h2 n hn, h3 n hn]

end Sys2Proof.Machine
end

