-- ==== Sys2Proof/Tests/Slice0.lean ====
section
/-! SUPPORT. Tests: expected values are the vectors of spec/95_test_vectors.md, or words written out
from the encodings of spec/30_encoding.md; and a witness for each statement that has hypotheses. -/

open Sys2Proof Sys2Proof.Machine

namespace Sys2Proof.Tests

/-! ## Helpers: one step from reset with one word presented -/

/-- A reading of the state after the first step, with a word of the table presented. -/
def stepped {α : Type} (nbits w : Nat) (read : State → α) : Option α :=
  match step (State.reset.withFetchWord nbits w) with
  | .next t => some (read t)
  | .fault _ => none
  | .refused _ => none

/-- A reading of `OUT` after one instruction at reset. -/
def ran {α : Type} (i : Instr) (read : FrameHeader → α) : Option α :=
  match exec i State.reset with
  | .next t => t.out.map read
  | .fault _ => none
  | .refused _ => none

/-! ## WellFormed: an ill-formed term for each check (R55: no `Exact(0)`, counts up to 31) -/

theorem test_wf_refuses_exact0 : (Instr.extract8 0xB0#8 4#3 (.exact 0)).wf = false := by decide
theorem test_wf_refuses_exact32 : (Instr.extract8 0xB0#8 4#3 (.exact 32)).wf = false := by decide
theorem test_wf_refuses_exact0_16 : (Instr.extract16 0xFFFF#16 5#4 (.exact 0)).wf = false := by decide
theorem test_wf_refuses_exact32_16 : (Instr.extract16 0xFFFF#16 5#4 (.exact 32)).wf = false := by
  decide
theorem test_wf_accepts_exact31 : (Instr.extract8 0xA5#8 0#3 (.exact 31)).wf = true := by decide

/-! ## Decoding: a word of each row, written out field by field from its encoding -/

-- wsel 00010, offset 100, value 10110000 (V-X2)
theorem test_decode_extract8 :
    decodeRow .extract8 0b00010_100_10110000 = .ok (.extract8 0xB0#8 4#3 (.exact 2)) := by rfl
-- wsel 00010, offset 0011, value 0xFFFB (V-Y3)
theorem test_decode_extract16 :
    decodeRow .extract16 0b00010_0011_1111111111111011 =
      .ok (.extract16 0xFFFB#16 3#4 (.exact 2)) := by rfl
-- version 11, layer 01, index 1001 (V-B1)
theorem test_decode_brlookup :
    decodeRow .brlookup 0b11_01_1001 = .ok (.brlookup 3#2 1#2 9#4) := by rfl
-- version 10, index 01 (V-F9)
theorem test_decode_sflookup : decodeRow .sflookup 0b10_01 = .ok (.sflookup 2#2 1#2) := by rfl
-- the source's fixture (V-S1)
theorem test_decode_decode :
    decodeRow .decode 0xFFFB9064 = .ok (.decode 0xFF#8 0xFB#8 0x90#8 0x64#8) := by rfl
theorem test_decode_octets :
    decodeOctets [0xFF#8, 0xFB#8, 0x90#8, 0x64#8] =
      .ok (.decode 0xFF#8 0xFB#8 0x90#8 0x64#8) := by rfl
theorem test_decode_octets_short : decodeOctets [0xFF#8, 0xFB#8, 0x90#8] = .error .octetCount := by
  rfl
theorem test_decode_refuses_class : decodeRow .brselV1L1 0xFFFB9064 = .error .outsideClass := by rfl
theorem test_decode_refuses_width : decodeRow .sflookup 16 = .error .wordTooWide := by rfl
theorem test_table_word_extract16 :
    decodeTableWord 25 0x023FFFB = some (.extract16 0xFFFB#16 3#4 (.exact 2)) := by rfl
theorem test_table_word_sflookup : decodeTableWord 4 0xD = some (.sflookup 3#2 1#2) := by rfl

-- BRSEL.V1L1, V-D16
theorem test_decode_brselV1L1 :
    decodeRow .brselV1L1 0xFFFEE000 = .ok (.brselV1L1 0b11111111111#11 0b01110000000000000#17) := by rfl
theorem test_exec_brselV1L1 :
    ran (.brselV1L1 0b11111111111#11 0b01110000000000000#17) (·.bitRateKbps) = some 448 := by decide
-- BRSEL.V1L2, V-D5
theorem test_decode_brselV1L2 :
    decodeRow .brselV1L2 0xFFFD5081 = .ok (.brselV1L2 0b11111111111#11 0b10101000010000001#17) := by rfl
theorem test_exec_brselV1L2 :
    ran (.brselV1L2 0b11111111111#11 0b10101000010000001#17) (·.bitRateKbps) = some 80 := by decide
-- BRSEL.V1L3, V-D1
theorem test_decode_brselV1L3 :
    decodeRow .brselV1L3 0xFFFB9064 = .ok (.brselV1L3 0b11111111111#11 0b11001000001100100#17) := by rfl
theorem test_exec_brselV1L3 :
    ran (.brselV1L3 0b11111111111#11 0b11001000001100100#17) (·.bitRateKbps) = some 128 := by decide
-- BRSEL.V2L1, V-D18
theorem test_decode_brselV2L1 :
    decodeRow .brselV2L1 0xFFE6B8FF = .ok (.brselV2L1 0b111111111110#12 0b01011100011111111#17) := by rfl
theorem test_exec_brselV2L1 :
    ran (.brselV2L1 0b111111111110#12 0b01011100011111111#17) (·.bitRateKbps) = some 176 := by decide
-- BRSEL.V2L2, V-D17
theorem test_decode_brselV2L2 :
    decodeRow .brselV2L2 0xFFF5E40C = .ok (.brselV2L2 0b111111111111#12 0b11110010000001100#17) := by rfl
theorem test_exec_brselV2L2 :
    ran (.brselV2L2 0b111111111111#12 0b11110010000001100#17) (·.bitRateKbps) = some 160 := by decide
-- BRSEL.V2L3, V-D7
theorem test_decode_brselV2L3 :
    decodeRow .brselV2L3 0xFFF3A4C3 = .ok (.brselV2L3 0b111111111111#12 0b11010010011000011#17) := by rfl
theorem test_exec_brselV2L3 :
    ran (.brselV2L3 0b111111111111#12 0b11010010011000011#17) (·.bitRateKbps) = some 96 := by decide
-- BRSEL.RSVV, V-D10
theorem test_decode_brselRsvV :
    decodeRow .brselRsvV 0xFFEB9000 = .ok (.brselRsvV 0b11111111111#11 0b0111001000000000000#19) := by rfl
theorem test_exec_brselRsvV :
    ran (.brselRsvV 0b11111111111#11 0b0111001000000000000#19) (·.bitRateKbps) = some (-1) := by decide
-- BRSEL.RSVL, V-D12
theorem test_decode_brselRsvL :
    decodeRow .brselRsvL 0xFFF990CB = .ok (.brselRsvL 0b1111111111111#13 0b11001000011001011#17) := by rfl
theorem test_exec_brselRsvL :
    ran (.brselRsvL 0b1111111111111#13 0b11001000011001011#17) (·.bitRateKbps) = some (-1) := by decide
-- SFSEL.V1, V-D5
theorem test_decode_sfselV1 :
    decodeRow .sfselV1 0xFFFD5081 = .ok (.sfselV1 0b11111111111#11 0b1010101000010000001#19) := by rfl
theorem test_exec_sfselV1 :
    ran (.sfselV1 0b11111111111#11 0b1010101000010000001#19) (·.samplingFrequencyHz) = some 44100 := by decide
-- SFSEL.V2, V-D7
theorem test_decode_sfselV2 :
    decodeRow .sfselV2 0xFFF3A4C3 = .ok (.sfselV2 0b11111111111#11 0b0111010010011000011#19) := by rfl
theorem test_exec_sfselV2 :
    ran (.sfselV2 0b11111111111#11 0b0111010010011000011#19) (·.samplingFrequencyHz) = some 24000 := by decide
-- SFSEL.V25, V-D18
theorem test_decode_sfselV25 :
    decodeRow .sfselV25 0xFFE6B8FF = .ok (.sfselV25 0b11111111111#11 0b1101011100011111111#19) := by rfl
theorem test_exec_sfselV25 :
    ran (.sfselV25 0b11111111111#11 0b1101011100011111111#19) (·.samplingFrequencyHz) = some 8000 := by decide
-- SFSEL.RSVV, V-D10
theorem test_decode_sfselRsvV :
    decodeRow .sfselRsvV 0xFFEB9000 = .ok (.sfselRsvV 0b11111111111#11 0b0111001000000000000#19) := by rfl
theorem test_exec_sfselRsvV :
    ran (.sfselRsvV 0b11111111111#11 0b0111001000000000000#19) (·.samplingFrequencyHz) = some (-1) := by decide
-- BRIDX.FREE, V-D13
theorem test_decode_bridxFree :
    decodeRow .bridxFree 0xFFF900CB = .ok (.bridxFree 0b1111111111111001#16 0b000011001011#12) := by rfl
theorem test_exec_bridxFree :
    ran (.bridxFree 0b1111111111111001#16 0b000011001011#12) (·.bitRateKbps) = some 0 := by decide
-- BRIDX.BAD, V-D9
theorem test_decode_bridxBad :
    decodeRow .bridxBad 0xFFE3F000 = .ok (.bridxBad 0b1111111111100011#16 0b000000000000#12) := by rfl
theorem test_exec_bridxBad :
    ran (.bridxBad 0b1111111111100011#16 0b000000000000#12) (·.bitRateKbps) = some (-1) := by decide
-- SFIDX.RSV, V-D6
theorem test_decode_sfidxRsv :
    decodeRow .sfidxRsv 0xFFFC1D02 = .ok (.sfidxRsv 0b11111111111111000001#20 0b0100000010#10) := by rfl
theorem test_exec_sfidxRsv :
    ran (.sfidxRsv 0b11111111111111000001#20 0b0100000010#10) (·.samplingFrequencyHz) = some (-1) := by decide
-- VERSION.0, V-D8
theorem test_decode_version0 :
    decodeRow .version0 0xFFE38440 = .ok (.version0 0b11111111111#11 0b0111000010001000000#19) := by rfl
theorem test_exec_version0 :
    ran (.version0 0b11111111111#11 0b0111000010001000000#19) (·.version) = some 0#2 := by decide
-- VERSION.1, V-D11
theorem test_decode_version1 :
    decodeRow .version1 0xFFEB0000 = .ok (.version1 0b11111111111#11 0b0110000000000000000#19) := by rfl
theorem test_exec_version1 :
    ran (.version1 0b11111111111#11 0b0110000000000000000#19) (·.version) = some 1#2 := by decide
-- VERSION.2, V-D15
theorem test_decode_version2 :
    decodeRow .version2 0x12345678 = .ok (.version2 0b00010010001#11 0b1000101011001111000#19) := by rfl
theorem test_exec_version2 :
    ran (.version2 0b00010010001#11 0b1000101011001111000#19) (·.version) = some 2#2 := by decide
-- VERSION.3, V-D1
theorem test_decode_version3 :
    decodeRow .version3 0xFFFB9064 = .ok (.version3 0b11111111111#11 0b0111001000001100100#19) := by rfl
theorem test_exec_version3 :
    ran (.version3 0b11111111111#11 0b0111001000001100100#19) (·.version) = some 3#2 := by decide
-- LAYER.0, V-D13
theorem test_decode_layer0 :
    decodeRow .layer0 0xFFF900CB = .ok (.layer0 0b1111111111111#13 0b10000000011001011#17) := by rfl
theorem test_exec_layer0 :
    ran (.layer0 0b1111111111111#13 0b10000000011001011#17) (·.layer) = some 0#2 := by decide
-- LAYER.1, V-D7
theorem test_decode_layer1 :
    decodeRow .layer1 0xFFF3A4C3 = .ok (.layer1 0b1111111111110#13 0b11010010011000011#17) := by rfl
theorem test_exec_layer1 :
    ran (.layer1 0b1111111111110#13 0b11010010011000011#17) (·.layer) = some 1#2 := by decide
-- LAYER.2, V-D5
theorem test_decode_layer2 :
    decodeRow .layer2 0xFFFD5081 = .ok (.layer2 0b1111111111111#13 0b10101000010000001#17) := by rfl
theorem test_exec_layer2 :
    ran (.layer2 0b1111111111111#13 0b10101000010000001#17) (·.layer) = some 2#2 := by decide
-- LAYER.3, V-D16
theorem test_decode_layer3 :
    decodeRow .layer3 0xFFFEE000 = .ok (.layer3 0b1111111111111#13 0b01110000000000000#17) := by rfl
theorem test_exec_layer3 :
    ran (.layer3 0b1111111111111#13 0b01110000000000000#17) (·.layer) = some 3#2 := by decide
-- PROT.0, V-D2
theorem test_decode_prot0 :
    decodeRow .prot0 0xFFFA9064 = .ok (.prot0 0b111111111111101#15 0b1001000001100100#16) := by rfl
theorem test_exec_prot0 :
    ran (.prot0 0b111111111111101#15 0b1001000001100100#16) (·.isProtected) = some true := by decide
-- PROT.1, V-D1
theorem test_decode_prot1 :
    decodeRow .prot1 0xFFFB9064 = .ok (.prot1 0b111111111111101#15 0b1001000001100100#16) := by rfl
theorem test_exec_prot1 :
    ran (.prot1 0b111111111111101#15 0b1001000001100100#16) (·.isProtected) = some false := by decide
-- CHMODE.0, V-D6
theorem test_decode_chmode0 :
    decodeRow .chmode0 0xFFFC1D02 = .ok (.chmode0 0b111111111111110000011101#24 0b000010#6) := by rfl
theorem test_exec_chmode0 :
    ran (.chmode0 0b111111111111110000011101#24 0b000010#6) (·.channelMode) = some 0#2 := by decide
-- CHMODE.1, V-D1
theorem test_decode_chmode1 :
    decodeRow .chmode1 0xFFFB9064 = .ok (.chmode1 0b111111111111101110010000#24 0b100100#6) := by rfl
theorem test_exec_chmode1 :
    ran (.chmode1 0b111111111111101110010000#24 0b100100#6) (·.channelMode) = some 1#2 := by decide
-- CHMODE.2, V-D20
theorem test_decode_chmode2 :
    decodeRow .chmode2 0xFFE2E8A5 = .ok (.chmode2 0b111111111110001011101000#24 0b100101#6) := by rfl
theorem test_exec_chmode2 :
    ran (.chmode2 0b111111111110001011101000#24 0b100101#6) (·.channelMode) = some 2#2 := by decide
-- CHMODE.3, V-D12
theorem test_decode_chmode3 :
    decodeRow .chmode3 0xFFF990CB = .ok (.chmode3 0b111111111111100110010000#24 0b001011#6) := by rfl
theorem test_exec_chmode3 :
    ran (.chmode3 0b111111111111100110010000#24 0b001011#6) (·.channelMode) = some 3#2 := by decide
-- EMPH.0, V-D1
theorem test_decode_emph0 :
    decodeRow .emph0 0xFFFB9064 = .ok (.emph0 0b111111111111101110010000011001#30) := by rfl
theorem test_exec_emph0 :
    ran (.emph0 0b111111111111101110010000011001#30) (·.emphasis) = some 0#2 := by decide
-- EMPH.1, V-D5
theorem test_decode_emph1 :
    decodeRow .emph1 0xFFFD5081 = .ok (.emph1 0b111111111111110101010000100000#30) := by rfl
theorem test_exec_emph1 :
    ran (.emph1 0b111111111111110101010000100000#30) (·.emphasis) = some 1#2 := by decide
-- EMPH.2, V-D6
theorem test_decode_emph2 :
    decodeRow .emph2 0xFFFC1D02 = .ok (.emph2 0b111111111111110000011101000000#30) := by rfl
theorem test_exec_emph2 :
    ran (.emph2 0b111111111111110000011101000000#30) (·.emphasis) = some 2#2 := by decide
-- EMPH.3, V-D19
theorem test_decode_emph3 :
    decodeRow .emph3 0xFFF2100F = .ok (.emph3 0b111111111111001000010000000011#30) := by rfl
theorem test_exec_emph3 :
    ran (.emph3 0b111111111111001000010000000011#30) (·.emphasis) = some 3#2 := by decide
-- SYNC.OK, V-D1
theorem test_decode_syncOk :
    decodeRow .syncOk 0xFFFB9064 = .ok (.syncOk 0b110111001000001100100#21) := by rfl
theorem test_exec_syncOk :
    ran (.syncOk 0b110111001000001100100#21) (·.frameSync) = some 0x7FF#11 := by decide

/-! ## Textual syntax (R62) -/

theorem test_text_extract8 : inputText (.bitx8 0x04B0#16) = some "EXTRACT8 176, 4, rest" := by decide
theorem test_text_brlookup : inputText (.brtab 0xD9#8) = some "BRLOOKUP 3, 1, 9" := by decide

/-! ## The operations, one step each from reset -/

-- V-S2, the source's example
theorem test_extract8_source : stepped 16 0x04B0 (·.bitx8) = some 0x0B#8 := by decide
-- V-X8: width 4 masks with 15, not 7 (90_conflicts.md C1)
theorem test_extract8_width4 : stepped 16 0x22A5 (·.bitx8) = some 0x09#8 := by decide
-- V-S3, the source's example
theorem test_extract16_source : stepped 25 0x005FFFF (·.bitx16) = some 0x07FF#16 := by decide
-- V-Y12: an overrunning field is zero-filled
theorem test_extract16_overrun : stepped 25 0x05C1234 (·.bitx16) = some 0x0001#16 := by decide
-- V-B1, from the fixture
theorem test_brlookup_source : stepped 8 0xD9 (·.brtab) = some 128 := by decide
-- V-B19: reserved version, index 0 gives 0, not -1 (90_conflicts.md C4)
theorem test_brlookup_reserved_free : stepped 8 0x70 (·.brtab) = some 0 := by decide
-- V-F12, from the fixture
theorem test_sflookup_source : stepped 4 0xC (·.sftab) = some 44100 := by decide
-- V-F5: reserved version
theorem test_sflookup_reserved : stepped 4 0x5 (·.sftab) = some (-1) := by decide

/-- V-D1, the fixture's whole record. -/
def fixture : FrameHeader where
  frameSync := 0x7FF#11
  version := 3#2
  layer := 1#2
  isProtected := false
  bitRateKbps := 128
  samplingFrequencyHz := 44100
  padding := false
  isPrivate := false
  channelMode := 1#2
  modeExtension := 2#2
  isCopyrighted := false
  isOriginal := true
  emphasis := 0#2

theorem test_decode_fixture : stepped 32 0xFFFB9064 (·.out) = some (some fixture) := by decide
theorem test_decode_sets_valid : stepped 32 0xFFFB9064 (·.outValid) = some true := by decide

/-! ## The wrapper's edges (program P2) -/

/-- After edge 1 of P2: the fixture is loaded. -/
def loaded : State := { State.reset with outValid := true, out := some fixture }

-- P2 edge 0: reset has priority over IN_VALID, the header is dropped
theorem test_reset_edge :
    (match step { loaded with inputs := [.edge true true 0xFFFB9064#32] } with
      | .next t => some (t.outValid, t.out)
      | .fault _ => none
      | .refused _ => none) = some (false, none) := by decide
-- P2 edge 2: IN_HDR ignored, OUT held, OUT_VALID drops
theorem test_idle_edge :
    (match step { loaded with inputs := [.edge false false 0xDEADBEEF#32] } with
      | .next t => some (t.outValid, t.out)
      | .fault _ => none
      | .refused _ => none) = some (false, some fixture) := by decide
-- R136: a read before the first load faults
theorem test_read_unloaded : readOut State.reset = .error .outNotLoaded := by rfl
-- P2, port encoding after edge 4 (V-D10)
theorem test_ports_of_sentinels :
    (outPorts (decodeWord tables 0xFFEB9000#32)).bitRateKbps = 0xFFFFFFFF#32 := by decide
-- P3 edge 5: the host's verdict on the fixture
theorem test_fixture_usable : (syncOk fixture && usable fixture && !reservedCode fixture) = true := by
  decide

/-! ## Witnesses: each hypothesis of each statement is met -/

theorem witness_extract_field : (4 < 8) ∧ (4 + 4 ≤ 8) := by decide
theorem witness_overwide : (7 < 8) ∧ (8 - 7 ≤ 1) ∧ (8 ≤ 8 ∧ 8 ≤ 31) ∧ (16 ≤ 31 ∧ 31 ≤ 31) := by decide
theorem witness_tile : (15 < 16) ∧ (0 + 1 ≤ 16 - 15) := by decide
theorem witness_brlookup_none :
    (14#4 ≠ 0#4 ∧ 14#4 ≠ 15#4) ∧ brSelect 1#2 3#2 = none ∧ brSelect 3#2 0#2 = none := by decide
theorem witness_brlookup_some :
    (1#4 ≠ 0#4 ∧ 1#4 ≠ 15#4) ∧ brSelect 0#2 2#2 = some .brV2L23 := by decide
theorem witness_sflookup : sfSelect 1#2 = none ∧ 2#2 ≠ 3#2 ∧ sfSelect 0#2 = some .sfV25 := by decide
theorem witness_sentinel : (1#2 = 1#2 ∨ 3#2 = 0#2) ∧ 1 ≤ 14 ∧ 14 ≤ 14 := by decide
theorem witness_out_of_range : 15 ≤ 15 ∧ 3 ≤ 3 := by decide
theorem witness_default_rates : (1#4 ≠ 0#4 ∧ 1#4 ≠ 15#4) ∧ (14#4 ≠ 0#4 ∧ 14#4 ≠ 15#4) := by decide
theorem witness_default_frequencies : 0#2 ≠ 3#2 ∧ 2#2 ≠ 3#2 := by decide
theorem witness_brsel :
    Row.brselV1L1.applies 0x001E0000#32 ∧ Row.brselV1L2.applies 0x001C0000#32 ∧
    Row.brselV1L3.applies 0x001A0000#32 ∧ Row.brselV2L1.applies 0x00160000#32 ∧
    Row.brselV2L2.applies 0x00040000#32 ∧ Row.brselV2L3.applies 0x00020000#32 ∧
    Row.brselRsvV.applies 0x00080000#32 ∧ Row.brselRsvL.applies 0x00180000#32 := by decide
theorem witness_sfsel :
    Row.sfselV1.applies 0x00180000#32 ∧ Row.sfselV2.applies 0x00100000#32 ∧
    Row.sfselV25.applies 0x00000000#32 ∧ Row.sfselRsvV.applies 0x00080000#32 := by decide
theorem witness_reserved_encodings :
    BitVec.extractLsb' 19 2 0xFFEB9000#32 = 1#2 ∧ BitVec.extractLsb' 17 2 0xFFF990CB#32 = 0#2 ∧
    BitVec.extractLsb' 12 4 0xFFEB0000#32 = 0#4 ∧ BitVec.extractLsb' 12 4 0xFFE3F000#32 = 15#4 ∧
    BitVec.extractLsb' 10 2 0xFFFC1D02#32 = 3#2 ∧ BitVec.extractLsb' 0 2 0xFFFC1D02#32 = 2#2 := by
  decide
-- V-D1 and V-D23 agree on the bits both integers depend on, and differ in the sync
theorem witness_dependence :
    BitVec.extractLsb' 17 4 0xFFFB9064#32 = BitVec.extractLsb' 17 4 0x7FFB9064#32 ∧
    BitVec.extractLsb' 12 4 0xFFFB9064#32 = BitVec.extractLsb' 12 4 0x7FFB9064#32 ∧
    BitVec.extractLsb' 19 2 0xFFFB9064#32 = BitVec.extractLsb' 19 2 0x7FFB9064#32 ∧
    BitVec.extractLsb' 10 2 0xFFFB9064#32 = BitVec.extractLsb' 10 2 0x7FFB9064#32 := by decide
-- reserved version, indices 9 and 10: two headers with one record
theorem witness_equal_records :
    decodeWord tables 0xFFEB9000#32 = decodeWord tables 0xFFEBA000#32 := by decide
theorem witness_lost_index :
    9#4 ≠ 0#4 ∧ 10#4 ≠ 0#4 ∧
      (BitVec.extractLsb' 3 2 0xFFEB#16 = 1#2 ∨ BitVec.extractLsb' 1 2 0xFFEB#16 = 0#2) := by decide
theorem witness_class_row :
    headerWord (.version3 0x7FF#11 0b0111001000001100100#19) = some 0xFFFB9064#32 := by decide
theorem witness_well_formed :
    (Instr.extract8 0xA5#8 7#3 (.exact 1)).wf = true ∧
    (Instr.extract16 0xA5#16 15#4 (.exact 31)).wf = true := by decide
theorem witness_decoded_row : decodeRow .chmode1 0xFFFB9064 =
    .ok (.chmode1 0b111111111111101110010000#24 0b100100#6) := by rfl
theorem witness_operand_words :
    65535 < 2 ^ Row.extract8.spec.width ∧ 15 < 2 ^ Row.sflookup.spec.width ∧
    Row.sflookup ∈ [Row.extract8, .extract16, .brlookup, .sflookup, .decode] := by decide
theorem witness_presented :
    decodeInput (.bitx8 0x04B0#16) = .operation (.extract8 0xB0#8 4#3 .rest) := by rfl
theorem witness_nothing_presented : State.reset.inputs = [] := by rfl
theorem witness_table_word : decodeTableWord 8 0xD9 = some (.brlookup 3#2 1#2 9#4) := by rfl
theorem witness_exec_next :
    exec (.sflookup 3#2 0#2) State.reset = .next { State.reset with sftab := 44100 } ∧
    exec (.sflookup 3#2 0#2) loaded = .next { loaded with sftab := 44100 } ∧
    headerWord (.sflookup 3#2 0#2) = none ∧
    (Instr.sflookup 3#2 0#2).row ≠ .extract8 := by
  exact ⟨rfl, rfl, rfl, by decide⟩
theorem witness_exec_header :
    exec (.decode 0xFF#8 0xFB#8 0x90#8 0x64#8) State.reset = .next loaded ∧
    headerWord (.decode 0xFF#8 0xFB#8 0x90#8 0x64#8) ≠ none := by
  exact ⟨by rfl, by decide⟩
theorem witness_config : configOk tables = true := by decide
/-- Index 0, with a valid version and sampling index: MPEG-1, reserved layer, 44100 Hz (R58, R134). -/
theorem witness_index_zero : (0b00000000001100000#17).extractLsb' 12 4 = 0#4 ∧
    configOk tables = true ∧ (0b1111111111111#13).extractLsb' 0 2 ≠ 1#2 ∧
    (0b00000000001100000#17).extractLsb' 10 2 ≠ 3#2 ∧
    0b1111111111111#13 ++ 0#2 ++ 0b00000000001100000#17 = 0xFFF80060#32 ∧
    (decodeWord tables 0xFFF80060#32).samplingFrequencyHz = 44100 ∧
    (decodeWord tables 0xFFF80060#32).bitRateKbps = 0 := by decide
/-- R115 (c): "a reserved version does not blank the channel mode"; R58 gives the two integers. -/
theorem test_reserved_version_keeps_channel_mode :
    decodeWord tables 0xFFEB9064#32 = { decodeWord tables 0xFFFB9064#32 with
      version := 1#2, bitRateKbps := -1, samplingFrequencyHz := -1 } ∧
    (decodeWord tables 0xFFEB9064#32).channelMode = 1#2 := by decide
theorem witness_conditions :
    conditionCause .freeFormat 0xFFEB0000#32 ∧ conditionCause .badBitRateIndex 0xFFE3F000#32 ∧
    conditionCause .unsupportedPair 0xFFEB9000#32 ∧
    conditionCause .reservedSamplingIndex 0xFFFC1D02#32 ∧
    conditionCause .reservedVersionSampling 0xFFEB9000#32 ∧
    conditionCause .reservedVersion 0xFFEB9000#32 ∧ conditionCause .reservedLayer 0xFFF990CB#32 ∧
    conditionCause .reservedEmphasis 0xFFFC1D02#32 := by decide
theorem witness_condition_values :
    (decodeWord tables 0xFFEB0000#32).bitRateKbps = 0 ∧
    (decodeWord tables 0xFFE3F000#32).bitRateKbps = -1 ∧
    (decodeWord tables 0xFFFC1D02#32).samplingFrequencyHz = -1 := by decide
theorem witness_no_load :
    ∀ k, Input.edge false true k ∉ [Input.edge false false 0#32, .bitx8 0#16] := by
  intro k hk; simp at hk
theorem witness_no_reset :
    ∀ v k, Input.edge true v k ∉ [Input.edge false true 0#32, .sftab 0#4] := by
  intro v k hk; simp at hk

/-- V-D10 loaded: a reserved version in `OUT`, both integers -1. -/
def reservedLoaded : State :=
  { State.reset with outValid := true, out := some (decodeWord tables 0xFFEB9000#32), sftab := -1 }

theorem witness_inv : Inv reservedLoaded ∧
    ∃ f, reservedLoaded.out = some f ∧ f.version = 1#2 ∧ (f.version = 1#2 ∨ f.layer = 0#2) := by
  refine ⟨⟨by decide, ?_, ⟨0#2, 0#2, .inl rfl⟩, ⟨0#2, .inl rfl⟩⟩, _, rfl, by decide, by decide⟩
  intro f hf
  cases hf
  exact ⟨.inr (.inl (by decide)), .inl (by decide)⟩
theorem witness_inv_step :
    step reservedLoaded = .next { reservedLoaded with outValid := false } := by rfl

end Sys2Proof.Tests
end

/-! ## The header word and its fields -/

namespace Sys2Proof.Machine

/-! ### Fields of a word made of parts -/

/-- The middle part of a word made of three, at the position the low part's width gives. -/
theorem extractLsb'_append_middle {a n l : Nat} (hi : BitVec a) (k : BitVec n) (lo : BitVec l) :
    (hi ++ k ++ lo).extractLsb' l n = k := by
  simp [BitVec.extractLsb'_append_eq_of_le, BitVec.extractLsb'_append_eq_right]

/-- A bit between two parts of a word, at the position the low part's width gives. -/
theorem getLsbD_append_middle {a l : Nat} (hi : BitVec a) (k : BitVec 1) (lo : BitVec l) :
    (hi ++ k ++ lo).getLsbD l = k.getLsbD 0 := by
  rw [BitVec.getLsbD_append, if_neg l.lt_irrefl, BitVec.getLsbD_append, Nat.sub_self,
    if_pos Nat.one_pos]

/-- A field inside a field is a field. -/
theorem extractLsb'_extractLsb' {W : Nat} (h : BitVec W) (l n : Nat) {j m : Nat} (hj : j + m ≤ n) :
    (h.extractLsb' l n).extractLsb' j m = h.extractLsb' (l + j) m := by
  refine BitVec.eq_of_getLsbD_eq fun i hi => ?_
  simp [hi, show j + i < n by omega, Nat.add_assoc]

/-! ### The Bit Extractor on an octet or a half of a longer word -/

/-- An `n`-bit field of a part of a word is a field of the word (R63, R104). -/
theorem setWidth_extractW_exact {N : Nat} (h : BitVec N) (l W o n : Nat) (hn : o + n ≤ W) :
    (extractW (h.extractLsb' l W) o (.exact n)).setWidth n = h.extractLsb' (l + o) n := by
  refine BitVec.eq_of_getLsbD_eq fun i hi => ?_
  simp [getLsbD_extractW_exact, hi, show o + i < W by omega, Nat.add_assoc]

/-- The `Rest` field of a part of a word is a field of the word (R63, R66, R104). -/
theorem setWidth_extractW_rest {N : Nat} (h : BitVec N) (l W o n : Nat) (hn : o + n = W) :
    (extractW (h.extractLsb' l W) o .rest).setWidth n = h.extractLsb' (l + o) n := by
  refine BitVec.eq_of_getLsbD_eq fun i hi => ?_
  simp [getLsbD_extractW_rest, hi, show o + i < W by omega, Nat.add_assoc]

/-- The number a `Rest` field stands for is that of the field of the word (R97). -/
theorem toNat_extractW_rest_extractLsb' {N : Nat} (h : BitVec N) (l W o n : Nat) (hn : o + n = W) :
    (extractW (h.extractLsb' l W) o .rest).toNat = (h.extractLsb' (l + o) n).toNat := by
  rw [← setWidth_extractW_rest h l W o n hn, BitVec.toNat_setWidth, Nat.mod_eq_of_lt]
  rw [toNat_extractW_rest, Nat.div_lt_iff_lt_mul (Nat.two_pow_pos o), ← Nat.pow_add, Nat.add_comm,
    hn]
  exact BitVec.isLt _

/-- The number an `Exact(n)` field stands for is that of the field of the word (R98). -/
theorem toNat_extractW_exact_extractLsb' {N : Nat} (h : BitVec N) (l W o n : Nat)
    (hn : o + n ≤ W) :
    (extractW (h.extractLsb' l W) o (.exact n)).toNat = (h.extractLsb' (l + o) n).toNat := by
  rw [← setWidth_extractW_exact h l W o n hn, BitVec.toNat_setWidth, toNat_extractW_exact,
    Nat.mod_mod]

/-- A one-bit field is the bit of the word, as a number (R70). -/
theorem toNat_extractW_exact_one {N : Nat} (h : BitVec N) (l W o : Nat) (ho : o < W) :
    (extractW (h.extractLsb' l W) o (.exact 1)).toNat = (h.getLsbD (l + o)).toNat := by
  rw [toNat_extractW_exact_extractLsb' h l W o 1 ho, BitVec.extractLsb'_toNat,
    Nat.shiftRight_eq_div_pow, pow_one, ← Nat.toNat_testBit, BitVec.testBit_toNat]

/-- A one-bit field compared with 1 is the bit of the word. -/
theorem extractW_exact_one_beq {N : Nat} (h : BitVec N) (l W o : Nat) (ho : o < W) :
    (extractW (h.extractLsb' l W) o (.exact 1) == 1#W) = h.getLsbD (l + o) := by
  have hone : 1 % 2 ^ W = 1 := Nat.mod_eq_of_lt (Nat.one_lt_two_pow (by omega))
  rw [Bool.eq_iff_iff, beq_iff_eq, BitVec.toNat_eq, toNat_extractW_exact_one h l W o ho]
  cases h.getLsbD (l + o) <;> simp [hone]

/-- A one-bit field compared with 0 is the inverted bit of the word (R94). -/
theorem extractW_exact_one_beq_zero {N : Nat} (h : BitVec N) (l W o : Nat) (ho : o < W) :
    (extractW (h.extractLsb' l W) o (.exact 1) == 0#W) = !h.getLsbD (l + o) := by
  rw [Bool.eq_iff_iff, beq_iff_eq, BitVec.toNat_eq, toNat_extractW_exact_one h l W o ho]
  cases h.getLsbD (l + o) <;> simp

/-! ### DECODE's fields (R104) -/

/-- `byte0 || byte1` is the upper half of the header (R30, R31). -/
theorem w16Of_wordOctets (h : HeaderWord) :
    w16Of (wordOctet0 h) (wordOctet1 h) = h.extractLsb' 16 16 :=
  BitVec.extractLsb'_append_extractLsb'_eq_extractLsb' rfl

/-- R104: DECODE's extractions and the closed form are one function. -/
theorem decodeWord_eq_closedForm (c : Config) (h : HeaderWord) :
    decodeWord c h = closedForm c h := by
  have hver : (extract16 (h.extractLsb' 16 16) 3#4 (.exact 2)).setWidth 2 = h.extractLsb' 19 2 :=
    setWidth_extractW_exact h 16 16 3 2 (by decide)
  have hlay : (extract16 (h.extractLsb' 16 16) 1#4 (.exact 2)).setWidth 2 = h.extractLsb' 17 2 :=
    setWidth_extractW_exact h 16 16 1 2 (by decide)
  have hbri : (extract8 (wordOctet2 h) 4#3 .rest).toNat = (h.extractLsb' 12 4).toNat :=
    toNat_extractW_rest_extractLsb' h 8 8 4 4 rfl
  have hsfi : (extract8 (wordOctet2 h) 2#3 (.exact 2)).toNat = (h.extractLsb' 10 2).toNat :=
    toNat_extractW_exact_extractLsb' h 8 8 2 2 (by decide)
  have hprot : (extract16 (h.extractLsb' 16 16) 0#4 (.exact 1) == 0#16) = !h.getLsbD 16 :=
    extractW_exact_one_beq_zero h 16 16 0 (by decide)
  simp only [decodeWord, decodeHeader, closedForm, w16Of_wordOctets, hver, hlay, hbri, hsfi, hprot,
    FrameHeader.mk.injEq, true_and]
  exact ⟨setWidth_extractW_rest h 16 16 5 11 rfl,
    extractW_exact_one_beq h 8 8 1 (by decide), extractW_exact_one_beq h 8 8 0 (by decide),
    setWidth_extractW_rest h 0 8 6 2 rfl, setWidth_extractW_exact h 0 8 4 2 (by decide),
    extractW_exact_one_beq h 0 8 3 (by decide), extractW_exact_one_beq h 0 8 2 (by decide),
    setWidth_extractW_exact h 0 8 0 2 (by decide)⟩

/-! ## Class rows: the field a row claims is the one DECODE gives

Each lemma puts back into DECODE's record the value that the header's bits give the field. -/

section
variable {c : Config} {h : HeaderWord}

theorem decodeWord_with_frameSync {v : BitVec 11} (hv : h.extractLsb' 21 11 = v) :
    { decodeWord c h with frameSync := v } = decodeWord c h := by
  subst hv; rw [decodeWord_eq_closedForm]; rfl

theorem decodeWord_with_version {v : Code2} (hv : h.extractLsb' 19 2 = v) :
    { decodeWord c h with version := v } = decodeWord c h := by
  subst hv; rw [decodeWord_eq_closedForm]; rfl

theorem decodeWord_with_layer {v : Code2} (hv : h.extractLsb' 17 2 = v) :
    { decodeWord c h with layer := v } = decodeWord c h := by
  subst hv; rw [decodeWord_eq_closedForm]; rfl

theorem decodeWord_with_isProtected {p : Bool} (hp : (!h.getLsbD 16) = p) :
    { decodeWord c h with isProtected := p } = decodeWord c h := by
  subst hp; rw [decodeWord_eq_closedForm]; rfl

theorem decodeWord_with_bitRate {r : Int}
    (hr : bitRate c (h.extractLsb' 19 2) (h.extractLsb' 17 2) (h.extractLsb' 12 4).toNat = r) :
    { decodeWord c h with bitRateKbps := r } = decodeWord c h := by
  subst hr; rw [decodeWord_eq_closedForm]; rfl

theorem decodeWord_with_samplingFrequency {r : Int}
    (hr : samplingFrequency c (h.extractLsb' 19 2) (h.extractLsb' 10 2).toNat = r) :
    { decodeWord c h with samplingFrequencyHz := r } = decodeWord c h := by
  subst hr; rw [decodeWord_eq_closedForm]; rfl

theorem decodeWord_with_channelMode {v : Code2} (hv : h.extractLsb' 6 2 = v) :
    { decodeWord c h with channelMode := v } = decodeWord c h := by
  subst hv; rw [decodeWord_eq_closedForm]; rfl

theorem decodeWord_with_emphasis {v : Code2} (hv : h.extractLsb' 0 2 = v) :
    { decodeWord c h with emphasis := v } = decodeWord c h := by
  subst hv; rw [decodeWord_eq_closedForm]; rfl

/-- The bit-rate table a row claims, read at the header's own index (R53, R73). -/
theorem decodeWord_with_bitRateFrom {t : Option BrTable} {index : BitVec 4}
    (ht : brSelect (h.extractLsb' 19 2) (h.extractLsb' 17 2) = t)
    (hi : h.extractLsb' 12 4 = index) :
    { decodeWord c h with bitRateKbps := bitRateFrom c t index.toNat } = decodeWord c h :=
  decodeWord_with_bitRate (by rw [hi, bitRate, ht])

/-- The sampling-frequency table a row claims, read at the header's own index (R54, R82). -/
theorem decodeWord_with_samplingFrequencyFrom {t : Option SfTable} {index : Code2}
    (ht : sfSelect (h.extractLsb' 19 2) = t) (hi : h.extractLsb' 10 2 = index) :
    { decodeWord c h with samplingFrequencyHz := samplingFrequencyFrom c t index.toNat } =
      decodeWord c h :=
  decodeWord_with_samplingFrequency (by rw [hi, samplingFrequency, ht])

/-! ### Which table the code bits select -/

/-- The four code bits `H[20:17]` decide the bit-rate table (R53). -/
theorem brSelect_of_codes {p : BitVec 4} (hp : h.extractLsb' 17 4 = p) :
    brSelect (h.extractLsb' 19 2) (h.extractLsb' 17 2) =
      brSelect (p.extractLsb' 2 2) (p.extractLsb' 0 2) := by
  rw [← hp, extractLsb'_extractLsb' h 17 4 (by decide), extractLsb'_extractLsb' h 17 4 (by decide)]

/-- MPEG-2 and MPEG-2.5 share their bit-rate tables (R75): the version's high bit does not matter
where its low bit is 0. -/
theorem brSelect_of_low_bit_zero (version layer : Code2) (hv : version.extractLsb' 0 1 = 0#1) :
    brSelect version layer = brSelect 0#2 layer := by
  revert version layer; decide

/-- The three code bits `H[19:17]` decide the bit-rate table where the version's low bit is 0
(R53). -/
theorem brSelect_of_low_codes {k : BitVec 3} (hk : h.extractLsb' 17 3 = k)
    (h0 : k.extractLsb' 2 1 = 0#1) :
    brSelect (h.extractLsb' 19 2) (h.extractLsb' 17 2) = brSelect 0#2 (k.extractLsb' 0 2) := by
  subst hk
  rw [extractLsb'_extractLsb' h 17 3 (by decide)] at h0 ⊢
  exact brSelect_of_low_bit_zero _ _ (by rw [extractLsb'_extractLsb' h 19 2 (by decide)]; exact h0)

end

/-- Index 3 has no sampling frequency, whatever the version (R27, R46, R82). -/
theorem samplingFrequency_three (c : Config) (version : Code2) :
    samplingFrequency c version 3 = -1 := by
  unfold samplingFrequency
  cases sfSelect version <;> rfl

/-! ### Running a class row -/

/-- DECODE of a header word loads its record (R90, R107). -/
theorem exec_decodeHdr (h : HeaderWord) (s : State) :
    exec (decodeHdr h) s = .next (loadOut (decodeWord tables h) s) := rfl

/-- A row that loads DECODE's record does what DECODE does. -/
theorem next_loadOut_eq_exec_decodeHdr {f : FrameHeader} {h : HeaderWord}
    (hf : f = decodeWord tables h) (s : State) :
    .next (loadOut f s) = exec (decodeHdr h) s := by
  rw [hf, exec_decodeHdr]

/-- Four octets put together and cut again are the octets (R31). -/
theorem decodeHdr_append (b0 b1 b2 b3 : Octet) :
    decodeHdr (b0 ++ b1 ++ b2 ++ b3) = .decode b0 b1 b2 b3 := by
  have h0 : wordOctet0 (b0 ++ b1 ++ b2 ++ b3) = b0 :=
    calc (b0 ++ b1 ++ b2 ++ b3).extractLsb' 24 8
      _ = (b0 ++ b1 ++ b2).extractLsb' 16 8 := BitVec.extractLsb'_append_eq_of_le (by decide)
      _ = (b0 ++ b1).extractLsb' 8 8 := BitVec.extractLsb'_append_eq_of_le (by decide)
      _ = b0 := BitVec.extractLsb'_append_eq_left
  have h1 : wordOctet1 (b0 ++ b1 ++ b2 ++ b3) = b1 :=
    calc (b0 ++ b1 ++ b2 ++ b3).extractLsb' 16 8
      _ = (b0 ++ b1 ++ b2).extractLsb' 8 8 := BitVec.extractLsb'_append_eq_of_le (by decide)
      _ = b1 := extractLsb'_append_middle b0 b1 b2
  have h2 : wordOctet2 (b0 ++ b1 ++ b2 ++ b3) = b2 := extractLsb'_append_middle (b0 ++ b1) b2 b3
  have h3 : wordOctet3 (b0 ++ b1 ++ b2 ++ b3) = b3 := BitVec.extractLsb'_append_eq_right
  rw [decodeHdr, h0, h1, h2, h3]

/-- Whatever row names a header, running it is DECODE of that header (30_encoding.md, head; log
entry 5). -/
theorem exec_eq_exec_decodeHdr {i : Instr} {h : HeaderWord} (hi : headerWord i = some h)
    (s : State) : exec i s = exec (decodeHdr h) s := by
  cases i <;> cases hi
  case decode => rw [decodeHdr_append]
  all_goals refine next_loadOut_eq_exec_decodeHdr ?_ s
  case brselV1L1 | brselV1L2 | brselV1L3 =>
    exact decodeWord_with_bitRateFrom (brSelect_of_codes (extractLsb'_append_middle _ _ _))
      (BitVec.extractLsb'_append_eq_of_add_le (by decide))
  case brselV2L1 | brselV2L2 | brselV2L3 =>
    exact decodeWord_with_bitRateFrom (brSelect_of_low_codes (extractLsb'_append_middle _ _ _) rfl)
      (BitVec.extractLsb'_append_eq_of_add_le (by decide))
  case brselRsvV =>
    exact decodeWord_with_bitRateFrom
      ((brSelect_eq_none_iff _ _).2 (.inl (extractLsb'_append_middle _ _ _)))
      (BitVec.extractLsb'_append_eq_of_add_le (by decide))
  case brselRsvL =>
    exact decodeWord_with_bitRateFrom
      ((brSelect_eq_none_iff _ _).2 (.inr (extractLsb'_append_middle _ _ _)))
      (BitVec.extractLsb'_append_eq_of_add_le (by decide))
  case sfselV1 | sfselV2 | sfselV25 | sfselRsvV =>
    exact decodeWord_with_samplingFrequencyFrom
      (congrArg sfSelect (extractLsb'_append_middle _ _ _))
      (BitVec.extractLsb'_append_eq_of_add_le (by decide))
  case bridxFree hi lo | bridxBad hi lo =>
    refine decodeWord_with_bitRate ?_
    rw [extractLsb'_append_middle hi _ lo]
    rfl
  case sfidxRsv hi lo =>
    refine decodeWord_with_samplingFrequency ?_
    rw [extractLsb'_append_middle hi _ lo]
    exact samplingFrequency_three _ _
  case version0 | version1 | version2 | version3 =>
    exact decodeWord_with_version (extractLsb'_append_middle _ _ _)
  case layer0 | layer1 | layer2 | layer3 =>
    exact decodeWord_with_layer (extractLsb'_append_middle _ _ _)
  case prot0 hi lo | prot1 hi lo =>
    exact decodeWord_with_isProtected (congrArg (! ·) (getLsbD_append_middle hi _ lo))
  case chmode0 | chmode1 | chmode2 | chmode3 =>
    exact decodeWord_with_channelMode (extractLsb'_append_middle _ _ _)
  case emph0 | emph1 | emph2 | emph3 =>
    exact decodeWord_with_emphasis BitVec.extractLsb'_append_eq_right
  case syncOk =>
    exact decodeWord_with_frameSync BitVec.extractLsb'_append_eq_left

/-! ## Presenting an instruction (R57, R107) -/

theorem decodeBitx8_append (wsel : BitVec 5) (offset : BitVec 3) (value : Octet) :
    decodeBitx8 (wsel ++ offset ++ value) = .extract8 value offset (widthOfWsel wsel) := by
  have ho : (wsel ++ offset ++ value).extractLsb' 8 3 = offset := extractLsb'_append_middle _ _ _
  have hw : (wsel ++ offset ++ value).extractLsb' 11 5 = wsel :=
    (BitVec.extractLsb'_append_eq_of_le (by decide)).trans BitVec.extractLsb'_append_eq_left
  rw [decodeBitx8, ho, hw, BitVec.extractLsb'_append_eq_right]

theorem decodeBitx16_append (wsel : BitVec 5) (offset : BitVec 4) (value : Word16) :
    decodeBitx16 (wsel ++ offset ++ value) = .extract16 value offset (widthOfWsel wsel) := by
  have ho : (wsel ++ offset ++ value).extractLsb' 16 4 = offset := extractLsb'_append_middle _ _ _
  have hw : (wsel ++ offset ++ value).extractLsb' 20 5 = wsel :=
    (BitVec.extractLsb'_append_eq_of_le (by decide)).trans BitVec.extractLsb'_append_eq_left
  rw [decodeBitx16, ho, hw, BitVec.extractLsb'_append_eq_right]

theorem decodeBrtab_append (version layer : Code2) (index : BitVec 4) :
    decodeBrtab (version ++ layer ++ index) = .brlookup version layer index := by
  have hl : (version ++ layer ++ index).extractLsb' 4 2 = layer := extractLsb'_append_middle _ _ _
  have hv : (version ++ layer ++ index).extractLsb' 6 2 = version :=
    (BitVec.extractLsb'_append_eq_of_le (by decide)).trans BitVec.extractLsb'_append_eq_left
  rw [decodeBrtab, hl, hv, BitVec.extractLsb'_append_eq_right]

theorem decodeSftab_append (version index : Code2) :
    decodeSftab (version ++ index) = .sflookup version index := by
  rw [decodeSftab, BitVec.extractLsb'_append_eq_left, BitVec.extractLsb'_append_eq_right]

/-- An instruction that presents a header is presented at an accepting edge (R107). -/
theorem present_of_headerWord {i : Instr} {h : HeaderWord} (hi : headerWord i = some h) :
    present i = .edge false true h := by
  cases i <;> cases hi <;> rfl

/-- A well-formed operation of a combinational module is read back from its operand port (R57). -/
theorem decodeInput_present_of_module {i : Instr} (hwf : i.wf = true) (hi : headerWord i = none) :
    decodeInput (present i) = .operation i := by
  cases i <;> cases hi
  case extract8 value offset width =>
    exact congrArg Event.operation ((decodeBitx8_append _ _ _).trans
      (congrArg (Instr.extract8 value offset) (widthOfWsel_wselOfWidth hwf)))
  case extract16 value offset width =>
    exact congrArg Event.operation ((decodeBitx16_append _ _ _).trans
      (congrArg (Instr.extract16 value offset) (widthOfWsel_wselOfWidth hwf)))
  case brlookup => exact congrArg Event.operation (decodeBrtab_append _ _ _)
  case sflookup => exact congrArg Event.operation (decodeSftab_append _ _)

/-! ## One step on a presented input -/

/-- The step on a presented operation is `exec` of it (R19). -/
theorem step_cons_operation {e : Input} {i : Instr} (he : decodeInput e = .operation i) (s : State)
    (rest : List Input) :
    step { s with inputs := e :: rest } = exec i { s with inputs := rest } := by
  rw [step, nextEvent_cons, he]

/-- The step on an accepting edge loads the closed form of its header (R104, R107). -/
theorem step_cons_header (h : HeaderWord) (s : State) (rest : List Input) :
    step { s with inputs := .edge false true h :: rest } =
      .next (loadOut (closedForm tables h) { s with inputs := rest }) := by
  rw [step_cons_operation rfl, exec_decodeHdr, decodeWord_eq_closedForm]

/-- Everything an instruction can do, by its row: a row over the header loads the closed form of the
header it presents; each module's operation drives that module's result port (R11, R23). -/
theorem exec_cases {i : Instr} {s t : State} (h : exec i s = .next t) :
    (∃ w, headerWord i = some w ∧ t = loadOut (closedForm tables w) s) ∨
    (i.row = .extract8 ∧ ∃ r, t = driveBitx8 r s) ∨
    (i.row = .extract16 ∧ ∃ r, t = driveBitx16 r s) ∨
    (i.row = .brlookup ∧ ∃ v l n, t = driveBrtab (bitRate tables v l n) s) ∨
    (i.row = .sflookup ∧ ∃ v n, t = driveSftab (samplingFrequency tables v n) s) := by
  cases hw : headerWord i with
  | some w =>
    rw [exec_eq_exec_decodeHdr hw, exec_decodeHdr, decodeWord_eq_closedForm] at h
    cases h
    exact .inl ⟨w, rfl, rfl⟩
  | none =>
    cases i <;> cases hw <;> cases h
    case none.extract8 => exact .inr (.inl ⟨rfl, _, rfl⟩)
    case none.extract16 => exact .inr (.inr (.inl ⟨rfl, _, rfl⟩))
    case none.brlookup => exact .inr (.inr (.inr (.inl ⟨rfl, _, _, _, rfl⟩)))
    case none.sflookup => exact .inr (.inr (.inr (.inr ⟨rfl, _, _, rfl⟩)))

/-! ## The invariant, operation by operation (R15, R17, R24) -/

/-- What DECODE produces is legal: both integers are looked up with the record's own codes (R15). -/
theorem legalRecord_closedForm (c : Config) (h : HeaderWord) : legalRecord c (closedForm c h) :=
  ⟨legalBitRate_bitRate c _ _ _, legalSamplingFrequency_samplingFrequency c _ _⟩

/-- At reset nothing is loaded, and the lookup ports show the lookups of all-zero operands. -/
theorem inv_reset : Inv State.reset :=
  ⟨nofun, nofun, ⟨0#2, 0#2, .inl rfl⟩,
    ⟨0#2, legalSamplingFrequency_samplingFrequency tables 0#2 0⟩⟩

section
variable {s : State} (hs : Inv s)
include hs

/-- What the host presents next is no part of the invariant. -/
theorem inv_nextEvent : Inv (nextEvent s).2 := by
  unfold nextEvent
  split <;> exact hs

theorem inv_resetEdge : Inv (resetEdge s) := by
  obtain ⟨-, -, hbr, hsf⟩ := hs
  exact ⟨nofun, nofun, hbr, hsf⟩

theorem inv_idleEdge : Inv (idleEdge s) := by
  obtain ⟨-, hout, hbr, hsf⟩ := hs
  exact ⟨nofun, hout, hbr, hsf⟩

theorem inv_loadOut {f : FrameHeader} (hf : legalRecord tables f) : Inv (loadOut f s) := by
  obtain ⟨-, -, hbr, hsf⟩ := hs
  refine ⟨fun _ => nofun, fun g hg => ?_, hbr, hsf⟩
  cases hg
  exact hf

theorem inv_driveBrtab {v l : Code2} {r : Int} (hr : legalBitRate tables v l r) :
    Inv (driveBrtab r s) := by
  obtain ⟨hvalid, hout, -, hsf⟩ := hs
  exact ⟨hvalid, hout, ⟨v, l, hr⟩, hsf⟩

theorem inv_driveSftab {v : Code2} {r : Int} (hr : legalSamplingFrequency tables v r) :
    Inv (driveSftab r s) := by
  obtain ⟨hvalid, hout, hbr, -⟩ := hs
  exact ⟨hvalid, hout, hbr, ⟨v, hr⟩⟩

/-- Every instruction, a class row too, keeps the invariant; the extractors' ports are no part of it. -/
theorem inv_exec {i : Instr} {t : State} (h : exec i s = .next t) : Inv t := by
  obtain ⟨w, -, rfl⟩ | ⟨-, r, rfl⟩ | ⟨-, r, rfl⟩ | ⟨-, v, l, n, rfl⟩ | ⟨-, v, n, rfl⟩ := exec_cases h
  · exact inv_loadOut hs (legalRecord_closedForm tables w)
  · exact hs
  · exact hs
  · exact inv_driveBrtab hs (legalBitRate_bitRate tables v l n)
  · exact inv_driveSftab hs (legalSamplingFrequency_samplingFrequency tables v n)

/-- Every step keeps the invariant. -/
theorem inv_step {t : State} (h : step s = .next t) : Inv t := by
  have hnext := inv_nextEvent hs
  obtain ⟨s', he, rfl⟩ | ⟨s', he, rfl⟩ | ⟨i, s', he, hexec⟩ := step_inv h <;> rw [he] at hnext
  · exact inv_resetEdge hnext
  · exact inv_idleEdge hnext
  · exact inv_exec hnext hexec

end

/-! ## What a list of inputs leaves in `OUT` (R24, R129) -/

/-- What `OUT` holds after the latest write of a list, if it has one, over what it held. -/
def outAfter (held : Option FrameHeader) : Option (Option HeaderWord) → Option FrameHeader
  | none => held
  | some none => none
  | some (some h) => some (closedForm tables h)

/-- What `OUT_VALID` shows after the latest edge of a list, if it has one, over what it showed. -/
def outValidAfter (held : Bool) : Option Bool → Bool
  | none => held
  | some b => b

/-- A later write hides an earlier one. -/
theorem lastWrite_cons (e : Input) (es : List Input) :
    lastWrite (e :: es) = (lastWrite es).or (lastWrite [e]) := by
  cases hes : lastWrite es <;> simp [lastWrite, hes]

/-- A later edge hides an earlier one. -/
theorem lastEdgeAccepts_cons (e : Input) (es : List Input) :
    lastEdgeAccepts (e :: es) = (lastEdgeAccepts es).or (lastEdgeAccepts [e]) := by
  cases hes : lastEdgeAccepts es <;> simp [lastEdgeAccepts, hes]

theorem outAfter_or (held : Option FrameHeader) (later earlier : Option (Option HeaderWord)) :
    outAfter held (later.or earlier) = outAfter (outAfter held earlier) later := by
  match later with
  | none | some none | some (some _) => rfl

theorem outValidAfter_or (held : Bool) (later earlier : Option Bool) :
    outValidAfter held (later.or earlier) = outValidAfter (outValidAfter held earlier) later := by
  cases later <;> rfl

/-- One presented input: the step takes it, and leaves `OUT` and `OUT_VALID` as that one
input says. -/
theorem step_cons_out (s : State) (e : Input) (rest : List Input) :
    ∃ t, step { s with inputs := e :: rest } = .next t ∧ t.inputs = rest ∧
      t.out = outAfter s.out (lastWrite [e]) ∧
      t.outValid = outValidAfter s.outValid (lastEdgeAccepts [e]) := by
  match e with
  | .edge true valid hdr => exact ⟨_, rfl, rfl, rfl, rfl⟩
  | .edge false false hdr => exact ⟨_, rfl, rfl, rfl, rfl⟩
  | .edge false true hdr => exact ⟨_, step_cons_header hdr s rest, rfl, rfl, rfl⟩
  | .bitx8 w => exact ⟨_, rfl, rfl, rfl, rfl⟩
  | .bitx16 w => exact ⟨_, rfl, rfl, rfl, rfl⟩
  | .brtab w => exact ⟨_, rfl, rfl, rfl, rfl⟩
  | .sftab w => exact ⟨_, rfl, rfl, rfl, rfl⟩

/-- A run goes on from the state its first step leaves. -/
theorem run_succ {s t : State} (h : step s = .next t) (k : Nat) :
    Host.Core.run core (k + 1) s = Host.Core.run core k t := by
  have hcore : core.step s = .next t := h
  simp only [Host.Core.run, hcore]

/-- Running a list of inputs takes them all, and leaves `OUT` and `OUT_VALID` as the latest write
and the latest edge of the list say. -/
theorem run_inputs (es rest : List Input) (s : State) :
    ∃ t : State, Host.Core.run core es.length { s with inputs := es ++ rest } = .next t ∧
      t.inputs = rest ∧ t.out = outAfter s.out (lastWrite es) ∧
      t.outValid = outValidAfter s.outValid (lastEdgeAccepts es) := by
  induction es generalizing s with
  | nil => exact ⟨_, rfl, rfl, rfl, rfl⟩
  | cons e es ih =>
    obtain ⟨s₁, hstep, hin, hout, hvalid⟩ := step_cons_out s e (es ++ rest)
    obtain ⟨t, hrun, htin, htout, htvalid⟩ := ih s₁
    have hs₁ : { s₁ with inputs := es ++ rest } = s₁ := by rw [← hin]
    refine ⟨t, (run_succ hstep es.length).trans (hs₁ ▸ hrun), htin, ?_, ?_⟩
    · rw [lastWrite_cons, outAfter_or, htout, hout]
    · rw [lastEdgeAccepts_cons, outValidAfter_or, htvalid, hvalid]

/-! ## The statements of 10_state.md -/

/-- Settles O54: the invariant is kept by taking an input, by each kind of edge and by every
instruction. -/
theorem everyStepKeepsTheInvariant : Obligations.EveryStepKeepsTheInvariant :=
  fun _ _ hs h => inv_step hs h

/-- Settles O40: a header is presented at an accepting edge and DECODE of it is the row that names
it; a module's operation is read back from its port. -/
theorem stepRunsEveryRowAsPresented : Obligations.StepRunsEveryRowAsPresented := by
  intro s rest i hwf
  cases hi : headerWord i with
  | some h =>
    rw [present_of_headerWord hi, step_cons_operation rfl, exec_eq_exec_decodeHdr hi]
  | none => exact step_cons_operation (decodeInput_present_of_module hwf hi) s rest

/-- Settles O45, from what each row can do. -/
theorem operationsKeepTheirFrame : Obligations.OperationsKeepTheirFrame := by
  intro i s t h
  obtain ⟨w, hw, rfl⟩ | ⟨hrow, r, rfl⟩ | ⟨hrow, r, rfl⟩ | ⟨hrow, v, l, n, rfl⟩ | ⟨hrow, v, n, rfl⟩ :=
    exec_cases h
  · simp [hw]
  all_goals simp [hrow]

/-- Settles O50, by induction over the inputs. -/
theorem outHoldsMostRecentHeader : Obligations.OutHoldsMostRecentHeader :=
  fun s es rest => run_inputs es rest s

/-- Settles O37, by the length of the list. -/
theorem onlyFourOctetsAreAHeader : Obligations.OnlyFourOctetsAreAHeader := by
  intro bs i
  constructor
  · intro h
    match bs, h with
    | [b0, b1, b2, b3], h =>
      cases h
      exact ⟨b0, b1, b2, b3, rfl, (decodeHdr_append b0 b1 b2 b3).symm⟩
  · rintro ⟨b0, b1, b2, b3, rfl, rfl⟩
    rw [decodeHdr_append]
    rfl

/-- Settles O39: taking the head of the list leaves the rest. -/
theorem stepRunsThePresentedInstruction : Obligations.StepRunsThePresentedInstruction :=
  fun s _ rest _ he => step_cons_operation he s rest

/-- Settles O55: the reset state holds no record and shows lookups of all-zero operands. -/
theorem resetMeetsTheInvariant : Obligations.ResetMeetsTheInvariant :=
  inv_reset

end Sys2Proof.Machine

/-! ## Memory: results and the read-only tables (20_memory.md) -/

namespace Sys2Proof.Machine

/-! ### Indices beyond the tables (R28) -/

/-- The bounds test on a bit-rate index comes before any table, selected or not (R28, R73). -/
theorem bitRateFrom_of_le (c : Config) (t : Option BrTable) {index : Nat} (h : 15 ≤ index) :
    bitRateFrom c t index = -1 := by
  unfold bitRateFrom
  rw [if_neg (by omega), if_pos h]

/-- Beyond its three stored entries a sampling-frequency table answers -1 (R27, R28). -/
theorem sfRead_of_le (c : Config) (t : SfTable) {index : Nat} (h : 3 ≤ index) :
    sfRead c t index = -1 := by
  rw [sfRead, Vector.getElem?_eq_none h]

/-- A sampling-frequency index past the last entry answers -1, table or no table (R28, R82). -/
theorem samplingFrequencyFrom_of_le (c : Config) (t : Option SfTable) {index : Nat}
    (h : 3 ≤ index) : samplingFrequencyFrom c t index = -1 := by
  cases t with
  | none => rfl
  | some t => rw [samplingFrequencyFrom, sfRead_of_le c t h, ite_self]

/-! ### What an instruction writes is fixed by the instruction (R11, R35) -/

/-- The operations that present no header are those of the four combinational modules (R11, R57). -/
theorem headerWord_eq_none_iff (i : Instr) : headerWord i = none ↔
    i.row = .extract8 ∨ i.row = .extract16 ∨ i.row = .brlookup ∨ i.row = .sflookup := by
  cases i <;> simp [headerWord, Instr.row]

/-- One written value serves every state: a header's record, or a module's result, is chosen by the
instruction before the state is known. -/
theorem exec_writes_same_value (i : Instr) :
    (headerWord i ≠ none ∧ ∃ f, ∀ s, exec i s = .next (loadOut f s)) ∨
    (i.row = .extract8 ∧ ∃ r, ∀ s, exec i s = .next (driveBitx8 r s)) ∨
    (i.row = .extract16 ∧ ∃ r, ∀ s, exec i s = .next (driveBitx16 r s)) ∨
    (i.row = .brlookup ∧ ∃ r, ∀ s, exec i s = .next (driveBrtab r s)) ∨
    (i.row = .sflookup ∧ ∃ r, ∀ s, exec i s = .next (driveSftab r s)) := by
  cases hw : headerWord i with
  | some w => exact .inl ⟨nofun, decodeWord tables w, exec_eq_exec_decodeHdr hw⟩
  | none =>
    cases i <;> cases hw
    case none.extract8 => exact .inr (.inl ⟨rfl, _, fun _ => rfl⟩)
    case none.extract16 => exact .inr (.inr (.inl ⟨rfl, _, fun _ => rfl⟩))
    case none.brlookup => exact .inr (.inr (.inr (.inl ⟨rfl, _, fun _ => rfl⟩)))
    case none.sflookup => exact .inr (.inr (.inr (.inr ⟨rfl, _, fun _ => rfl⟩)))

/-! ### The statements of 20_memory.md -/

/-- Settles O46: both runs write the one value the instruction fixes. -/
theorem resultsIgnoreHistory : Obligations.ResultsIgnoreHistory := by
  intro i s s' t t' h h'
  obtain ⟨hheader, f, hexec⟩ | ⟨hrow, r, hexec⟩ | ⟨hrow, r, hexec⟩ | ⟨hrow, r, hexec⟩ |
    ⟨hrow, r, hexec⟩ := exec_writes_same_value i
  all_goals
    rw [hexec] at h h'
    cases h
    cases h'
  · simp only [ne_eq, headerWord_eq_none_iff, not_or] at hheader
    simp [hheader]
  all_goals simp [headerWord_eq_none_iff, hrow]

/-- Settles O11: the bounds tests answer before the contents of any table matter. -/
theorem outOfRangeIndicesGiveMinusOne : Obligations.OutOfRangeIndicesGiveMinusOne :=
  fun c _ _ _ => ⟨bitRateFrom_of_le c _, samplingFrequencyFrom_of_le c _⟩

end Sys2Proof.Machine

/-! ## Encoding: the rows' masks, the decoder and the encoder (30_encoding.md) -/

namespace Sys2Proof

open Machine

/-! ### The field a row fixes -/

/-- A field of the header word, by its lowest bit and its width, with the code a class asks there. -/
structure FixedField where
  lsb : Nat
  width : Nat
  code : BitVec width

/-- What the mask and the match of a row say (R42 to R46, R48, R51, R53, R54, R91): one field with
one code. The operations fix an empty field (R59). -/
def Row.fixed : Row → FixedField
  | .extract8 | .extract16 | .brlookup | .sflookup | .decode => ⟨0, 0, 0#0⟩
  | .brselV1L1 => ⟨17, 4, 15#4⟩
  | .brselV1L2 => ⟨17, 4, 14#4⟩
  | .brselV1L3 => ⟨17, 4, 13#4⟩
  | .brselV2L1 => ⟨17, 3, 3#3⟩
  | .brselV2L2 => ⟨17, 3, 2#3⟩
  | .brselV2L3 => ⟨17, 3, 1#3⟩
  | .bridxFree => ⟨12, 4, 0#4⟩
  | .bridxBad => ⟨12, 4, 15#4⟩
  | .sfidxRsv => ⟨10, 2, 3#2⟩
  | .sfselV25 | .version0 => ⟨19, 2, 0#2⟩
  | .brselRsvV | .sfselRsvV | .version1 => ⟨19, 2, 1#2⟩
  | .sfselV2 | .version2 => ⟨19, 2, 2#2⟩
  | .sfselV1 | .version3 => ⟨19, 2, 3#2⟩
  | .brselRsvL | .layer0 => ⟨17, 2, 0#2⟩
  | .layer1 => ⟨17, 2, 1#2⟩
  | .layer2 => ⟨17, 2, 2#2⟩
  | .layer3 => ⟨17, 2, 3#2⟩
  | .prot0 => ⟨16, 1, 0#1⟩
  | .prot1 => ⟨16, 1, 1#1⟩
  | .chmode0 => ⟨6, 2, 0#2⟩
  | .chmode1 => ⟨6, 2, 1#2⟩
  | .chmode2 => ⟨6, 2, 2#2⟩
  | .chmode3 => ⟨6, 2, 3#2⟩
  | .emph0 => ⟨0, 2, 0#2⟩
  | .emph1 => ⟨0, 2, 1#2⟩
  | .emph2 => ⟨0, 2, 2#2⟩
  | .emph3 => ⟨0, 2, 3#2⟩
  | .syncOk => ⟨21, 11, 0x7FF#11⟩

theorem Row.fixed_inside (r : Row) : r.fixed.lsb + r.fixed.width ≤ 32 := by
  cases r <;> decide

/-- A row's mask covers exactly the bits of its field. -/
theorem Row.getLsbD_mask (r : Row) : ∀ i : Fin 32, r.spec.mask.getLsbD i =
    (decide (r.fixed.lsb ≤ i.val) && decide (i.val < r.fixed.lsb + r.fixed.width)) := by
  cases r <;> decide

/-- A row's match is its code, in place. -/
theorem Row.getLsbD_pattern (r : Row) : ∀ i : Fin 32, r.spec.pattern.getLsbD i =
    (decide (r.fixed.lsb ≤ i.val) && r.fixed.code.getLsbD (i.val - r.fixed.lsb)) := by
  cases r <;> decide

/-- `(H & mask) == match` compares one field with one code (30_encoding.md, head). -/
theorem Row.applies_iff (r : Row) (h : HeaderWord) :
    r.applies h = true ↔ h.extractLsb' r.fixed.lsb r.fixed.width = r.fixed.code := by
  rw [Row.applies, masked_eq_iff_field h _ _ _ _ _ r.getLsbD_mask r.getLsbD_pattern r.fixed_inside,
    decide_eq_true_eq]

/-- An operation's row accepts every word: it fixes no bit (R59). -/
theorem Row.applies_of_width_zero {r : Row} (hr : r.fixed.width = 0) (h : HeaderWord) :
    r.applies h = true :=
  (r.applies_iff h).2 (BitVec.eq_of_zero_length hr)

/-! ### Cutting a word into parts and putting it together -/

/-- The upper of three parts of a word. -/
theorem extractLsb'_append_upper {a n l : Nat} (hi : BitVec a) (k : BitVec n) (lo : BitVec l) :
    (hi ++ k ++ lo).extractLsb' (l + n) a = hi := by
  rw [BitVec.extractLsb'_append_eq_of_le (Nat.le_add_right l n), Nat.add_sub_cancel_left,
    BitVec.extractLsb'_append_eq_left]

/-- A word is its upper part before its lower part. -/
theorem append_extractLsb' (a l : Nat) (h : BitVec (a + l)) :
    h.extractLsb' l a ++ h.extractLsb' 0 l = h := by
  rw [BitVec.extractLsb'_append_extractLsb'_eq_extractLsb' (Nat.zero_add l).symm,
    BitVec.extractLsb'_eq_self]

/-- A word is its three parts, one after another. -/
theorem append_extractLsb'_middle (a n l : Nat) (h : BitVec (a + n + l)) :
    h.extractLsb' (l + n) a ++ h.extractLsb' l n ++ h.extractLsb' 0 l = h := by
  rw [BitVec.extractLsb'_append_extractLsb'_eq_extractLsb' rfl, append_extractLsb']

/-- A code may stand for the part of the word that holds it. -/
theorem append_code_middle {a n l : Nat} {h : BitVec (a + n + l)} {k : BitVec n}
    (hk : h.extractLsb' l n = k) : h.extractLsb' (l + n) a ++ k ++ h.extractLsb' 0 l = h := by
  rw [← hk, append_extractLsb'_middle]

theorem append_code_low {a l : Nat} {h : BitVec (a + l)} {k : BitVec l}
    (hk : h.extractLsb' 0 l = k) : h.extractLsb' l a ++ k = h := by
  rw [← hk, append_extractLsb']

theorem append_code_high {a l : Nat} {h : BitVec (a + l)} {k : BitVec a}
    (hk : h.extractLsb' l a = k) : k ++ h.extractLsb' 0 l = h := by
  rw [← hk, append_extractLsb']

/-- A header is its octets in stream order (R31). -/
theorem append_wordOctets (h : HeaderWord) :
    wordOctet0 h ++ wordOctet1 h ++ wordOctet2 h ++ wordOctet3 h = h := by
  have h01 : wordOctet0 h ++ wordOctet1 h = h.extractLsb' 16 16 :=
    BitVec.extractLsb'_append_extractLsb'_eq_extractLsb' rfl
  rw [h01]
  exact append_extractLsb'_middle 16 8 8 h

/-! ### The operand words of the modules (R57) -/

theorem present_decodeBitx8 (w : BitVec 16) : present (decodeBitx8 w) = .bitx8 w := by
  rw [decodeBitx8, present, wselOfWidth_widthOfWsel]
  exact congrArg Input.bitx8 (append_extractLsb'_middle 5 3 8 w)

theorem present_decodeBitx16 (w : BitVec 25) : present (decodeBitx16 w) = .bitx16 w := by
  rw [decodeBitx16, present, wselOfWidth_widthOfWsel]
  exact congrArg Input.bitx16 (append_extractLsb'_middle 5 4 16 w)

theorem present_decodeBrtab (w : BitVec 8) : present (decodeBrtab w) = .brtab w :=
  congrArg Input.brtab (append_extractLsb'_middle 2 2 4 w)

theorem present_decodeSftab (w : BitVec 4) : present (decodeSftab w) = .sftab w :=
  congrArg Input.sftab (append_extractLsb' 2 2 w)

/-! ### What a row cuts out of a word -/

theorem Row.row_cut (r : Row) (h : HeaderWord) : (r.cut h).row = r := by
  cases r <;> rfl

/-- Every selector read off a port is well-formed (R55). -/
theorem Row.wf_cut (r : Row) (h : HeaderWord) : (r.cut h).wf = true := by
  cases r
  case extract8 | extract16 => exact widthOfWsel_wf _
  all_goals rfl

/-- A row over the header puts what it cuts out of a header of its class together again. -/
theorem Row.headerWord_cut {r : Row} {h : HeaderWord} (hr : r.spec.width = 32)
    (happ : r.applies h = true) : headerWord (r.cut h) = some h := by
  have hk := (r.applies_iff h).1 happ
  cases r
  case extract8 | extract16 | brlookup | sflookup => exact absurd hr (by decide)
  case decode => exact congrArg some (append_wordOctets h)
  case emph0 | emph1 | emph2 | emph3 => exact congrArg some (append_code_low hk)
  case syncOk => exact congrArg some (append_code_high hk)
  all_goals exact congrArg some (append_code_middle hk)

/-- A header an instruction presents lies in the class of the instruction's row. -/
theorem applies_of_headerWord {i : Instr} {h : HeaderWord} (hi : headerWord i = some h) :
    i.row.applies h = true := by
  rw [Row.applies_iff]
  cases i <;> cases hi
  case decode => exact BitVec.eq_of_zero_length rfl
  case emph0 | emph1 | emph2 | emph3 => exact BitVec.extractLsb'_append_eq_right
  case syncOk => exact BitVec.extractLsb'_append_eq_left
  all_goals exact extractLsb'_append_middle _ _ _

/-- A row cuts the instruction it belongs to out of the header the instruction presents. -/
theorem cut_of_headerWord {i : Instr} {h : HeaderWord} (hi : headerWord i = some h) :
    i.row.cut h = i := by
  cases i <;> cases hi
  case decode => exact decodeHdr_append _ _ _ _
  case emph0 => exact congrArg Instr.emph0 BitVec.extractLsb'_append_eq_left
  case emph1 => exact congrArg Instr.emph1 BitVec.extractLsb'_append_eq_left
  case emph2 => exact congrArg Instr.emph2 BitVec.extractLsb'_append_eq_left
  case emph3 => exact congrArg Instr.emph3 BitVec.extractLsb'_append_eq_left
  case syncOk => exact congrArg Instr.syncOk BitVec.extractLsb'_append_eq_right
  all_goals exact congrArg₂ _ (extractLsb'_append_upper _ _ _) BitVec.extractLsb'_append_eq_right

/-! ### Decoding a word as a row's -/

/-- What a row's decoder accepts: the words of its width and class, cut as the row cuts them. -/
theorem decodeRow_eq_ok_iff {r : Row} {w : Nat} {i : Instr} : decodeRow r w = .ok i ↔
    w < 2 ^ r.spec.width ∧ r.applies (BitVec.ofNat 32 w) = true ∧ r.cut (BitVec.ofNat 32 w) = i := by
  unfold decodeRow
  split_ifs with hw happ
  · simp [hw]
  · simp [Nat.lt_of_not_le hw, happ]
  · simp [happ]

/-- A word of a row's width, in the row's class, is read as the row cuts it. -/
theorem decodeRow_toNat {r : Row} {n : Nat} (w : BitVec n) (hn : r.spec.width = n)
    (happ : r.applies (w.setWidth 32) = true) :
    decodeRow r w.toNat = .ok (r.cut (w.setWidth 32)) := by
  rw [decodeRow_eq_ok_iff, hn, BitVec.ofNat_toNat]
  exact ⟨w.isLt, happ, rfl⟩

theorem decodeRow_headerWord {i : Instr} {h : HeaderWord} (hi : headerWord i = some h) :
    decodeRow i.row h.toNat = .ok i := by
  have hwidth : i.row.spec.width = 32 := by cases i <;> cases hi <;> rfl
  have happ := applies_of_headerWord hi
  have hcut := cut_of_headerWord hi
  rw [← BitVec.setWidth_eq h] at happ hcut
  rw [decodeRow_toNat h hwidth happ, hcut]

/-- A row that fixes no bit reads a word of its width as its port's reader does. -/
theorem decodeRow_port {r : Row} {n : Nat} {read : BitVec n → Instr} (w : BitVec n)
    (hn : r.spec.width = n) (hle : n ≤ 32) (hfree : r.fixed.width = 0)
    (hread : ∀ h, r.cut h = read (h.setWidth n)) : decodeRow r w.toNat = .ok (read w) := by
  rw [decodeRow_toNat w hn (Row.applies_of_width_zero hfree _), hread,
    BitVec.setWidth_setWidth_of_le w hle, BitVec.setWidth_eq]

/-- A word on a port is read as the operation of that port (R57, R59). -/
theorem decodeRow_word {e : Input} {i : Instr} (he : decodeInput e = .operation i) :
    decodeRow i.row e.word = .ok i := by
  match e, he with
  | .edge false true h, rfl => exact decodeRow_headerWord (congrArg some (append_wordOctets h))
  | .bitx8 w, rfl => exact decodeRow_port w rfl (by decide) rfl fun _ => rfl
  | .bitx16 w, rfl => exact decodeRow_port w rfl (by decide) rfl fun _ => rfl
  | .brtab w, rfl => exact decodeRow_port w rfl (by decide) rfl fun _ => rfl
  | .sftab w, rfl => exact decodeRow_port w rfl (by decide) rfl fun _ => rfl

/-- What a row cuts out of a word of its class is encoded as the word's low bits, the row's width of
them. -/
theorem encode_cut {r : Row} {h : HeaderWord} (happ : r.applies h = true) :
    encode (r.cut h) = h.toNat % 2 ^ r.spec.width := by
  by_cases hr : r.spec.width = 32
  · rw [encode, present_of_headerWord (Row.headerWord_cut hr happ), hr]
    exact (Nat.mod_eq_of_lt h.isLt).symm
  · have hlow (n : Nat) : (h.setWidth n).toNat = h.toNat % 2 ^ n := BitVec.toNat_setWidth n h
    cases r
    case neg.extract8 => exact (congrArg Input.word (present_decodeBitx8 _)).trans (hlow 16)
    case neg.extract16 => exact (congrArg Input.word (present_decodeBitx16 _)).trans (hlow 25)
    case neg.brlookup => exact (congrArg Input.word (present_decodeBrtab _)).trans (hlow 8)
    case neg.sflookup => exact (congrArg Input.word (present_decodeSftab _)).trans (hlow 4)
    all_goals exact absurd rfl hr

/-! ### The statements on the decoder and the encoder -/

/-- Settles O34: a header is cut by the row that presents it, and a module's word is read back from
its port. -/
theorem decodeOfEncodeIsIdentity : Obligations.DecodeOfEncodeIsIdentity := by
  intro i hwf
  cases hi : headerWord i with
  | some h =>
    rw [encode, present_of_headerWord hi]
    exact decodeRow_headerWord hi
  | none => exact decodeRow_word (decodeInput_present_of_module hwf hi)

/-- Settles O35: what a row cuts is of the row, well-formed, and encoded as the word it was cut
from. -/
theorem encodeOfDecodeIsIdentity : Obligations.EncodeOfDecodeIsIdentity := by
  intro r w i h
  obtain ⟨hw, happ, rfl⟩ := decodeRow_eq_ok_iff.1 h
  have hwidth : r.spec.width ≤ 32 := by cases r <;> decide
  refine ⟨r.row_cut _, r.wf_cut _, ?_⟩
  rw [encode_cut happ, BitVec.toNat_ofNat, Nat.mod_mod_of_dvd _ (Nat.pow_dvd_pow 2 hwidth),
    Nat.mod_eq_of_lt hw]

/-- Every instruction answers a next state: it loads a record or drives a port (R59, R109). -/
theorem exec_completes (i : Instr) (s : State) : ∃ t, exec i s = .next t := by
  obtain ⟨-, f, hexec⟩ | ⟨-, r, hexec⟩ | ⟨-, r, hexec⟩ | ⟨-, r, hexec⟩ | ⟨-, r, hexec⟩ :=
    exec_writes_same_value i
  all_goals exact ⟨_, hexec s⟩

/-- Settles O36: an operation's row fixes no bit, and every instruction completes. -/
theorem everyOperandWordHasAResult : Obligations.EveryOperandWordHasAResult := by
  intro r w hr hw
  have hfree : r.fixed.width = 0 := by fin_cases hr <;> rfl
  exact ⟨_, decodeRow_eq_ok_iff.2 ⟨hw, Row.applies_of_width_zero hfree _, rfl⟩, exec_completes _⟩

/-- Settles O38, word by word. -/
theorem writtenOutWordsDecode : Obligations.WrittenOutWordsDecode :=
  ⟨rfl, rfl, rfl, rfl, rfl, rfl, rfl⟩

/-- A word of the table is presented at the input its width tells, which asks for the operation
(log entry 8). -/
theorem tableInput_of_decodeTableWord {nbits w : Nat} {i : Instr}
    (h : decodeTableWord nbits w = some i) :
    ∃ e, tableInput nbits w = some e ∧ decodeInput e = .operation i := by
  unfold decodeTableWord at h
  cases he : tableInput nbits w with
  | none => simp [he] at h
  | some e => cases hi : decodeInput e <;> simp_all

/-- Settles O43: the word is presented next, and the step runs what its input asks. -/
theorem tableWordsRunNext : Obligations.TableWordsRunNext := by
  intro s nbits w i h
  obtain ⟨e, he, hi⟩ := tableInput_of_decodeTableWord h
  have hnext : s.withFetchWord nbits w = { s with inputs := e :: s.inputs } := by
    rw [State.withFetchWord, he]
  rw [hnext, step_cons_operation hi]

end Sys2Proof

/-! ## Encoding: the classes and what their headers load (30_encoding.md) -/

namespace Sys2Proof.Machine

/-! ### Which classes a header is in (R42 to R44, R48, R51, R53, R54) -/

/-- Settles O16: each BRSEL row tests a part of the four code bits `H[20:17]`, and those decide the
table. -/
theorem brselMasksSelectTheTable : Obligations.BrselMasksSelectTheTable := by
  refine ⟨by decide, fun h => ?_⟩
  have hpart (j m : Nat) (hj : j + m ≤ 4) :
      h.extractLsb' (17 + j) m = (h.extractLsb' 17 4).extractLsb' j m :=
    (extractLsb'_extractLsb' h 17 4 hj).symm
  have hversion := hpart 2 2 (by decide)
  have hlayer := hpart 0 2 (by decide)
  have hlow := hpart 0 3 (by decide)
  simp only [Row.applies_iff, Row.fixed, List.filter_cons, List.filter_nil]
  rw [hversion, hlayer, hlow]
  generalize h.extractLsb' 17 4 = codes
  revert codes
  decide

/-- Settles O17: each SFSEL row asks one code of `H[20:19]`. -/
theorem sfselMasksSelectTheTable : Obligations.SfselMasksSelectTheTable := by
  intro h
  simp only [Row.applies_iff, Row.fixed, List.filter_cons, List.filter_nil]
  generalize h.extractLsb' 19 2 = version
  revert version
  decide

/-- Settles O18: the classes of a family ask every code of one field, each once. -/
theorem oneClassOfEachCodeFamily : Obligations.OneClassOfEachCodeFamily := by
  intro h
  simp only [Row.applies_iff, Row.fixed, List.filter_cons, List.filter_nil]
  generalize h.extractLsb' 19 2 = version, h.extractLsb' 17 2 = layer,
    h.extractLsb' 16 1 = protection, h.extractLsb' 6 2 = mode, h.extractLsb' 0 2 = emphasis
  refine ⟨?_, ?_, ?_, ?_, ?_⟩
  · revert version; decide
  · revert layer; decide
  · revert protection; decide
  · revert mode; decide
  · revert emphasis; decide

/-! ### Reserved and special encodings (R58) -/

/-- The emphasis code is no part of any other field (R58). -/
theorem decodeWord_append_emphasis (c : Config) (hi : BitVec 30) (e e' : Code2) :
    decodeWord c (hi ++ e') = { decodeWord c (hi ++ e) with emphasis := e' } := by
  have hfield (e : Code2) (j n : Nat) (hj : 2 ≤ j) :
      (hi ++ e : HeaderWord).extractLsb' j n = hi.extractLsb' (j - 2) n :=
    BitVec.extractLsb'_append_eq_of_le hj
  have hbit (e : Code2) (j : Nat) (hj : 2 ≤ j) :
      (hi ++ e : HeaderWord).getLsbD j = hi.getLsbD (j - 2) := by
    rw [BitVec.getLsbD_append, if_neg (Nat.not_lt.2 hj)]
  rw [decodeWord_eq_closedForm, decodeWord_eq_closedForm]
  simp only [closedForm, hfield, hbit, Nat.reduceLeDiff]
  rw [BitVec.extractLsb'_append_eq_right]

/-- The frame sync is no part of any other field (R58, R111). -/
theorem decodeWord_append_frameSync (c : Config) (sync sync' : BitVec 11) (lo : BitVec 21) :
    decodeWord c (sync' ++ lo) = { decodeWord c (sync ++ lo) with frameSync := sync' } := by
  have hfield (v : BitVec 11) (j n : Nat) (hj : j + n ≤ 21) :
      (v ++ lo : HeaderWord).extractLsb' j n = lo.extractLsb' j n :=
    BitVec.extractLsb'_append_eq_of_add_le hj
  have hbit (v : BitVec 11) (j : Nat) (hj : j < 21) :
      (v ++ lo : HeaderWord).getLsbD j = lo.getLsbD j := by
    rw [BitVec.getLsbD_append, if_pos hj]
  rw [decodeWord_eq_closedForm, decodeWord_eq_closedForm]
  simp only [closedForm, hfield, hbit, Nat.reduceAdd, Nat.reduceLeDiff, Nat.reduceLT]
  rw [BitVec.extractLsb'_append_eq_left]

/-- Where no table is selected, the rate says only whether the index is 0 (R58, R73, R74). -/
theorem bitRateFrom_none (c : Config) (index : BitVec 4) :
    bitRateFrom c none index.toNat = if index = 0#4 then 0 else -1 := by
  simp [bitRateFrom, BitVec.toNat_eq]

section
variable {c : Config} {h : HeaderWord}

/-- The rate of a header, by the table its codes select and its index (R95, R104). -/
theorem closedForm_bitRate {t : Option BrTable} {index : BitVec 4}
    (ht : brSelect (h.extractLsb' 19 2) (h.extractLsb' 17 2) = t)
    (hi : h.extractLsb' 12 4 = index) :
    (closedForm c h).bitRateKbps = bitRateFrom c t index.toNat := by
  rw [closedForm, bitRate, ht, hi]

/-- The rate of a header whose codes select no table (R58). -/
theorem closedForm_bitRate_of_reserved {index : BitVec 4}
    (hcodes : h.extractLsb' 19 2 = 1#2 ∨ h.extractLsb' 17 2 = 0#2)
    (hi : h.extractLsb' 12 4 = index) :
    (closedForm c h).bitRateKbps = if index = 0#4 then 0 else -1 := by
  rw [closedForm_bitRate ((brSelect_eq_none_iff _ _).2 hcodes) hi, bitRateFrom_none]

/-- The frequency of a header, by the table its version selects and its index (R96, R104). -/
theorem closedForm_samplingFrequency {t : Option SfTable} {index : Code2}
    (ht : sfSelect (h.extractLsb' 19 2) = t) (hi : h.extractLsb' 10 2 = index) :
    (closedForm c h).samplingFrequencyHz = samplingFrequencyFrom c t index.toNat := by
  rw [closedForm, samplingFrequency, ht, hi]

/-- Index 3 gives -1 Hz, whatever the version (R46, R58). -/
theorem closedForm_samplingFrequency_of_index_three (hi : h.extractLsb' 10 2 = 3#2) :
    (closedForm c h).samplingFrequencyHz = -1 := by
  rw [closedForm, hi]
  exact samplingFrequency_three c _

end

/-- Settles O19, encoding by encoding over the closed form. -/
theorem reservedEncodingsHaveDefinedOutputs : Obligations.ReservedEncodingsHaveDefinedOutputs := by
  refine ⟨decodeWord_append_emphasis, decodeWord_append_frameSync, fun c h => ?_⟩
  rw [decodeWord_eq_closedForm]
  refine ⟨fun hv => ⟨hv, ?_, ?_⟩, fun hl => ⟨hl, ?_, rfl⟩, fun hb => ?_, fun hb => ?_, fun hs => ?_,
    fun he => he, rfl⟩
  · exact closedForm_samplingFrequency ((sfSelect_eq_none_iff _).2 hv) rfl
  · exact closedForm_bitRate_of_reserved (.inl hv) rfl
  · exact closedForm_bitRate_of_reserved (.inr hl) rfl
  · exact closedForm_bitRate rfl hb
  · exact closedForm_bitRate rfl hb
  · exact closedForm_samplingFrequency_of_index_three hs

/-! ### What a header loads, presented in a class (R53, R54, R107; log entry 5) -/

/-- Running any row over the header loads the closed form of the header it presents, and changes
nothing else. -/
theorem exec_of_headerWord {i : Instr} {h : HeaderWord} (hi : headerWord i = some h) (s : State) :
    exec i s = .next { s with outValid := true, out := some (closedForm tables h) } := by
  rw [exec_eq_exec_decodeHdr hi, exec_decodeHdr, decodeWord_eq_closedForm]
  rfl

/-- A property of the closed form of a header is one of the record its row loads. -/
theorem exec_loads_closedForm {i : Instr} {h : HeaderWord} (hi : headerWord i = some h) (s : State)
    {P : FrameHeader → Prop} (hP : P (closedForm tables h)) :
    ∃ f, exec i s = .next { s with outValid := true, out := some f } ∧
      f = closedForm tables h ∧ P f :=
  ⟨_, exec_of_headerWord hi s, rfl, hP⟩

/-- Settles O27: each row's code bits select its table, and the index lies below them. -/
theorem brselRowsLoadTheirRate : Obligations.BrselRowsLoadTheirRate := by
  intro s
  refine ⟨fun hi lo => ?_, fun hi lo => ?_, fun hi lo => ?_, fun hi lo => ?_, fun hi lo => ?_,
    fun hi lo => ?_, fun hi lo => ?_, fun hi lo => ?_⟩ <;> refine exec_loads_closedForm rfl s ?_
  iterate 3
    exact closedForm_bitRate (brSelect_of_codes (extractLsb'_append_middle _ _ _))
      (BitVec.extractLsb'_append_eq_of_add_le (by decide))
  iterate 3
    exact closedForm_bitRate (brSelect_of_low_codes (extractLsb'_append_middle _ _ _) rfl)
      (BitVec.extractLsb'_append_eq_of_add_le (by decide))
  · exact closedForm_bitRate_of_reserved (.inl (extractLsb'_append_middle _ _ _))
      (BitVec.extractLsb'_append_eq_of_add_le (by decide))
  · exact closedForm_bitRate_of_reserved (.inr (extractLsb'_append_middle _ _ _))
      (BitVec.extractLsb'_append_eq_of_add_le (by decide))

/-- Settles O28: each row's version code selects its table, and the index lies below it. -/
theorem sfselRowsLoadTheirFrequency : Obligations.SfselRowsLoadTheirFrequency := by
  intro s hi lo
  refine ⟨?_, ?_, ?_, ?_⟩
  all_goals
    refine exec_loads_closedForm rfl s ?_
    exact closedForm_samplingFrequency (congrArg sfSelect (extractLsb'_append_middle _ _ _))
      (BitVec.extractLsb'_append_eq_of_add_le (by decide))

/-- Settles O29: the bounds tests answer before any table is read. -/
theorem indexRowsLoadTheirSentinel : Obligations.IndexRowsLoadTheirSentinel := by
  intro s
  refine ⟨fun hi lo => ?_, fun hi lo => ?_, fun hi lo => ?_⟩ <;>
    refine exec_loads_closedForm rfl s ?_
  · exact closedForm_bitRate rfl (extractLsb'_append_middle hi _ lo)
  · exact closedForm_bitRate rfl (extractLsb'_append_middle hi _ lo)
  · exact closedForm_samplingFrequency_of_index_three (extractLsb'_append_middle hi _ lo)

/-- A row over the header whose closed form holds a code loads the code, under the code's name. -/
theorem exec_loads_named_code {i : Instr} {h : HeaderWord} (hi : headerWord i = some h) (s : State)
    {field : FrameHeader → Code2} {code : Code2} (hfield : field (closedForm tables h) = code)
    {Name : Type} (name : Code2 → Name) :
    ∃ f, exec i s = .next { s with outValid := true, out := some f } ∧
      f = closedForm tables h ∧ field f = code ∧ name (field f) = name code :=
  exec_loads_closedForm hi s ⟨hfield, congrArg name hfield⟩

/-- Settles O30: the code stands between the bits the class leaves free. -/
theorem versionAndLayerRowsLoadTheirCode : Obligations.VersionAndLayerRowsLoadTheirCode := by
  intro s
  refine ⟨?_, ?_, ?_, ?_, ?_, ?_, ?_, ?_⟩ <;> intro hi lo
  iterate 4
    exact exec_loads_named_code (field := FrameHeader.version) rfl s
      (extractLsb'_append_middle hi _ lo) versionName
  iterate 4
    exact exec_loads_named_code (field := FrameHeader.layer) rfl s
      (extractLsb'_append_middle hi _ lo) layerName

/-- Settles O31: the protection bit is inverted, the sync is output as it is. -/
theorem protectionAndSyncRowsLoadTheirField : Obligations.ProtectionAndSyncRowsLoadTheirField := by
  intro s
  refine ⟨fun hi lo => ?_, fun hi lo => ?_, fun lo => ?_⟩ <;>
    refine exec_loads_closedForm rfl s ?_
  · exact congrArg (! ·) (getLsbD_append_middle hi _ lo)
  · exact congrArg (! ·) (getLsbD_append_middle hi _ lo)
  · exact BitVec.extractLsb'_append_eq_left

/-- Settles O32: the channel mode stands between the bits its class leaves free, the emphasis
below them. -/
theorem channelModeAndEmphasisRowsLoadTheirCode :
    Obligations.ChannelModeAndEmphasisRowsLoadTheirCode := by
  intro s
  refine ⟨?_, ?_, ?_, ?_, ?_, ?_, ?_, ?_⟩
  iterate 4
    exact fun hi lo => exec_loads_named_code (field := FrameHeader.channelMode) rfl s
      (extractLsb'_append_middle hi _ lo) channelModeName
  iterate 4
    exact fun hi => exec_loads_named_code (field := FrameHeader.emphasis) rfl s
      BitVec.extractLsb'_append_eq_right emphasisName

end Sys2Proof.Machine

/-! ## The Bit Extractor (40_bit_extractor.md) -/

namespace Sys2Proof.Machine

/-! ### The field as a slice of the value (R63, R68) -/

/-- An `n`-bit field is the slice of `n` bits at the offset; bits past the top of the value read as
0 on both sides, so no bound on `n` is needed (R63, R68). -/
theorem extractW_exact_eq_slice {W : Nat} (value : BitVec W) (offset n : Nat) :
    extractW value offset (.exact n) = (value.extractLsb' offset n).setWidth W := by
  refine BitVec.eq_of_getLsbD_eq fun i hi => ?_
  rw [getLsbD_extractW_exact, BitVec.getLsbD_setWidth, BitVec.getLsbD_extractLsb',
    decide_eq_true hi, Bool.true_and, Bool.and_comm]

/-- What is left of a value after its low `offset` bits fits in the remaining bits (R70). -/
theorem toNat_extractW_rest_lt {W : Nat} (value : BitVec W) {offset : Nat} (ho : offset ≤ W) :
    (extractW value offset .rest).toNat < 2 ^ (W - offset) := by
  rw [toNat_extractW_rest, Nat.div_lt_iff_lt_mul (Nat.two_pow_pos offset), ← Nat.pow_add,
    Nat.sub_add_cancel ho]
  exact value.isLt

/-- An `n`-bit field is the `Rest` field modulo `2^n` (R70). -/
theorem toNat_extractW_exact_eq_mod {W : Nat} (value : BitVec W) (offset n : Nat) :
    (extractW value offset (.exact n)).toNat = (extractW value offset .rest).toNat % 2 ^ n := by
  rw [toNat_extractW_exact, toNat_extractW_rest]

/-- A field that reaches the top of the value is the `Rest` field (R68). -/
theorem extractW_exact_eq_rest {W : Nat} (value : BitVec W) {offset n : Nat} (ho : offset ≤ W)
    (hn : W - offset ≤ n) : extractW value offset (.exact n) = extractW value offset .rest := by
  refine BitVec.eq_of_toNat_eq ?_
  rw [toNat_extractW_exact_eq_mod, Nat.mod_eq_of_lt]
  exact (toNat_extractW_rest_lt value ho).trans_le (Nat.pow_le_pow_right Nat.two_pos hn)

/-- The `Rest` field is the slice from the offset to the top (R63, R66). -/
theorem extractW_rest_eq_slice {W : Nat} (value : BitVec W) {offset : Nat} (ho : offset ≤ W) :
    extractW value offset .rest = (value.extractLsb' offset (W - offset)).setWidth W := by
  rw [← extractW_exact_eq_rest value ho le_rfl, extractW_exact_eq_slice]

/-! ### The result by the selector's port value (R64, R65) -/

/-- The three cases of R64 and R65: no mask, a mask for counts up to `top`, and from there on a mask
that covers the whole value. -/
theorem extractW_widthOfWsel {W top : Nat} (htop : W ≤ top + 1) (value : BitVec W) {offset : Nat}
    (ho : offset ≤ W) (wsel : BitVec 5) :
    extractW value offset (widthOfWsel wsel) =
      if wsel = 0#5 then value >>> offset
      else if wsel.toNat ≤ top then (value >>> offset) &&& BitVec.ofNat W (2 ^ wsel.toNat - 1)
      else value >>> offset := by
  unfold widthOfWsel
  split
  · rfl
  · split
    · rfl
    · exact extractW_exact_eq_rest value ho (by omega)

/-- `EXTRACT8` drives its result port with the field (R11, R64). -/
theorem exec_extract8 (value : Octet) (offset : BitVec 3) (w : Width) (s : State) :
    exec (.extract8 value offset w) s = .next (driveBitx8 (extractW value offset.toNat w) s) :=
  rfl

/-- `EXTRACT16` drives its result port with the field (R11, R65). -/
theorem exec_extract16 (value : Word16) (offset : BitVec 4) (w : Width) (s : State) :
    exec (.extract16 value offset w) s = .next (driveBitx16 (extractW value offset.toNat w) s) :=
  rfl

/-! ### Extracting from a value carried in a wider one (R70) -/

/-- Zero-extending the value zero-extends the field. -/
theorem extractW_setWidth {W V : Nat} (hWV : W ≤ V) (value : BitVec W) (offset : Nat) (w : Width) :
    extractW (value.setWidth V) offset w = (extractW value offset w).setWidth V := by
  refine BitVec.eq_of_toNat_eq ?_
  rw [BitVec.toNat_setWidth_of_le hWV]
  cases w with
  | rest => rw [toNat_extractW_rest, toNat_extractW_rest, BitVec.toNat_setWidth_of_le hWV]
  | exact n => rw [toNat_extractW_exact, toNat_extractW_exact, BitVec.toNat_setWidth_of_le hWV]

/-! ### The statements of 40_bit_extractor.md -/

/-- Settles O1: the operand word is cut into its fields, and the port's three cases are the
extractor's. -/
theorem extract8WritesItsResultPort : Obligations.Extract8WritesItsResultPort := by
  intro s wsel offset value
  have hdecode := decodeBitx8_append wsel offset value
  refine ⟨hdecode, ?_⟩
  rw [hdecode, exec_extract8, extractW_widthOfWsel (top := 7) le_rfl value offset.isLt.le]
  rfl

/-- Settles O2: as for the octet, on the 16-bit port. -/
theorem extract16WritesItsResultPort : Obligations.Extract16WritesItsResultPort := by
  intro s wsel offset value
  have hdecode := decodeBitx16_append wsel offset value
  refine ⟨hdecode, ?_⟩
  rw [hdecode, exec_extract16, extractW_widthOfWsel (top := 15) le_rfl value offset.isLt.le]
  rfl

/-- Settles O3: the shift and the mask are the definition; the field is the slice, bit by bit. -/
theorem extractReturnsTheField : Obligations.ExtractReturnsTheField :=
  fun _ value offset n ho =>
    ⟨rfl, rfl, extractW_rest_eq_slice value ho.le, fun _ => extractW_exact_eq_slice value offset n⟩

/-- Settles O4: the `Rest` field already lies below `2^n`, so the mask takes nothing away. -/
theorem overwideFieldActsAsRest : Obligations.OverwideFieldActsAsRest := by
  refine ⟨fun W value offset n ho hn => ?_, fun value offset n hn _ => ?_,
    fun value offset n hn _ => ?_⟩
  · have hrest := extractW_exact_eq_rest value ho.le hn
    exact ⟨hrest.trans (extractW_rest_eq_slice value ho.le), hrest⟩
  · exact extractW_exact_eq_rest value offset.isLt.le ((Nat.sub_le 8 _).trans hn)
  · exact extractW_exact_eq_rest value offset.isLt.le ((Nat.sub_le 16 _).trans hn)

/-- Settles O5: the field as a number is a quotient by `2^offset`, reduced modulo `2^n`. -/
theorem extractorArithmeticLaws : Obligations.ExtractorArithmeticLaws := by
  intro W value offset n ho
  have hmod := toNat_extractW_exact_eq_mod value offset n
  have hrest := toNat_extractW_rest_lt value ho.le
  refine ⟨BitVec.ushiftRight_zero value, hrest, ?_, hmod, ?_⟩
  · have hmin : 2 ^ min n (W - offset) = min (2 ^ n) (2 ^ (W - offset)) :=
      (pow_right_mono₀ one_le_two).map_min
    rw [hmin, hmod]
    exact lt_min (Nat.mod_lt _ (Nat.two_pow_pos n)) ((Nat.mod_le _ _).trans_lt hrest)
  · have hbit := toNat_extractW_exact_one value 0 W offset ho
    rwa [BitVec.extractLsb'_eq_self, Nat.zero_add] at hbit

/-- Settles O6: the wider offset port holds the same number, and the octet is zero-extended. -/
theorem extractorSizesAgree : Obligations.ExtractorSizesAgree := by
  intro v o w
  rw [extract16, extract8, BitVec.toNat_setWidth_of_le (by decide)]
  exact extractW_setWidth (by decide) v o.toNat w

/-- Settles O7: reducing modulo `2^a * 2^b` leaves the low `a` bits and `2^a` times the `b` bits
above them. -/
theorem extractorFieldsTile : Obligations.ExtractorFieldsTile := by
  intro W value offset a b _ _
  calc (extractW value offset (.exact (a + b))).toNat
      = value.toNat / 2 ^ offset % (2 ^ a * 2 ^ b) := by rw [toNat_extractW_exact, Nat.pow_add]
    _ = value.toNat / 2 ^ offset % 2 ^ a +
          2 ^ a * (value.toNat / 2 ^ offset / 2 ^ a % 2 ^ b) := Nat.mod_mul
    _ = (extractW value (offset + a) (.exact b)).toNat * 2 ^ a +
          (extractW value offset (.exact a)).toNat := by
      rw [toNat_extractW_exact, toNat_extractW_exact, Nat.pow_add, Nat.div_div_eq_div_mul,
        Nat.add_comm, Nat.mul_comm]

end Sys2Proof.Machine

/-! ## The Field Tables (41_field_tables.md) -/

namespace Sys2Proof.Machine

/-! ### The operands' ranges (R73, R82) -/

/-- A bit-rate index that is neither sentinel is one of the 14 that read a table (R26, R73). -/
theorem bitRateIndex_bounds {index : BitVec 4} (h0 : index ≠ 0#4) (h15 : index ≠ 15#4) :
    1 ≤ index.toNat ∧ index.toNat ≤ 14 := by
  bv_omega

/-- A sampling-frequency index other than 3 is one of the three that read a table (R27, R82). -/
theorem samplingIndex_lt {index : Code2} (h3 : index ≠ 3#2) : index.toNat < 3 := by
  bv_omega

/-! ### Where no table is selected, and where one is (R73, R74, R82) -/

/-- Where no table is selected every bit-rate index but 0 gives -1 (R74). -/
theorem bitRate_of_none (c : Config) {version layer : Code2} {index : Nat}
    (hnone : brSelect version layer = none) (h1 : 1 ≤ index) :
    bitRate c version layer index = -1 := by
  rw [bitRate, hnone, bitRateFrom, if_neg (Nat.one_le_iff_ne_zero.1 h1), ite_self]

/-- Where no table is selected every sampling-frequency index gives -1 (R82). -/
theorem samplingFrequency_of_none (c : Config) {version : Code2} (index : Nat)
    (hnone : sfSelect version = none) : samplingFrequency c version index = -1 := by
  rw [samplingFrequency, hnone, samplingFrequencyFrom]

/-- Between the sentinels each table has one entry per index, and every pair that selects the table
answers that entry (R26, R73). -/
theorem bitRate_entry (c : Config) (t : BrTable) {index : Nat} (h1 : 1 ≤ index)
    (h14 : index ≤ 14) :
    ∃ n : Nat, (brRom c t).toList[index - 1]? = some n ∧
      ∀ version layer, brSelect version layer = some t → bitRate c version layer index = n := by
  have hlt : index - 1 < 14 := by omega
  refine ⟨(brRom c t)[index - 1], by simp [hlt], fun version layer ht => ?_⟩
  rw [bitRate, ht, bitRateFrom, if_neg (by omega), if_neg (by omega)]
  exact brRead_of_lt c t hlt

/-- Below index 3 each table has one entry per index, and every version that selects the table
answers that entry (R27, R82). -/
theorem samplingFrequency_entry (c : Config) (t : SfTable) {index : Nat} (h : index < 3) :
    ∃ n : Nat, (sfRom c t).toList[index]? = some n ∧
      ∀ version, sfSelect version = some t → samplingFrequency c version index = n := by
  refine ⟨(sfRom c t)[index], by simp [h], fun version ht => ?_⟩
  rw [samplingFrequency, ht, samplingFrequencyFrom, if_neg (by omega)]
  exact sfRead_of_lt c t h

/-- Pairs that select the same bit-rate table have the same rates (R75). -/
theorem bitRate_eq_of_brSelect_eq (c : Config) {version layer version' layer' : Code2}
    (h : brSelect version layer = brSelect version' layer') (index : Nat) :
    bitRate c version layer index = bitRate c version' layer' index := by
  rw [bitRate, bitRate, h]

/-! ### Running a lookup (R11, R73, R82) -/

/-- `BRLOOKUP` drives its result port with the bit rate, and changes nothing else. -/
theorem exec_brlookup (version layer : Code2) (index : BitVec 4) (s : State) :
    exec (.brlookup version layer index) s =
      .next { s with brtab := bitRate tables version layer index.toNat } :=
  rfl

/-- `SFLOOKUP` drives its result port with the sampling frequency, and changes nothing else. -/
theorem exec_sflookup (version index : Code2) (s : State) :
    exec (.sflookup version index) s =
      .next { s with sftab := samplingFrequency tables version index.toNat } :=
  rfl

/-- All pairs that select a table drive the port with its one entry at the index. -/
theorem exec_brlookup_entry (t : BrTable) {index : BitVec 4} (h0 : index ≠ 0#4)
    (h15 : index ≠ 15#4) (s : State) :
    ∃ n : Nat, (brRom tables t).toList[index.toNat - 1]? = some n ∧
      ∀ version layer, brSelect version layer = some t →
        exec (.brlookup version layer index) s = .next { s with brtab := (n : Int) } := by
  obtain ⟨h1, h14⟩ := bitRateIndex_bounds h0 h15
  obtain ⟨n, hn, hrate⟩ := bitRate_entry tables t h1 h14
  exact ⟨n, hn, fun version layer ht => by rw [exec_brlookup, hrate version layer ht]⟩

/-- All versions that select a table drive the port with its one entry at the index. -/
theorem exec_sflookup_entry (t : SfTable) {index : Code2} (h3 : index ≠ 3#2) (s : State) :
    ∃ n : Nat, (sfRom tables t).toList[index.toNat]? = some n ∧
      ∀ version, sfSelect version = some t →
        exec (.sflookup version index) s = .next { s with sftab := (n : Int) } := by
  obtain ⟨n, hn, hfreq⟩ := samplingFrequency_entry tables t (samplingIndex_lt h3)
  exact ⟨n, hn, fun version ht => by rw [exec_sflookup, hfreq version ht]⟩

/-! ### The integers on their 32-bit ports (R87; default tables, log entry 4) -/

/-- A table entry below `2^31` is read back from its port (R87). -/
theorem toInt_intPort_natCast {n : Nat} (h : n < 2 ^ 31) : (intPort n).toInt = n :=
  BitVec.toInt_ofInt_eq_self (by decide) (by omega) (by omega)

/-- Every default bit rate fits the port. -/
theorem brRom_tables_lt {t : BrTable} : ∀ n ∈ (brRom tables t).toList, n < 2 ^ 31 := by
  cases t <;> decide

/-- Every default sampling frequency fits the port. -/
theorem sfRom_tables_lt {t : SfTable} : ∀ n ∈ (sfRom tables t).toList, n < 2 ^ 31 := by
  cases t <;> decide

/-- A legal bit rate, a sentinel or an entry, is read back from its port. -/
theorem toInt_intPort_of_legalBitRate {version layer : Code2} {r : Int}
    (hr : legalBitRate tables version layer r) : (intPort r).toInt = r := by
  obtain rfl | rfl | ⟨t, n, -, hn, rfl⟩ := hr
  · decide
  · decide
  · exact toInt_intPort_natCast (brRom_tables_lt n hn)

/-- A legal sampling frequency, the sentinel or an entry, is read back from its port. -/
theorem toInt_intPort_of_legalSamplingFrequency {version : Code2} {r : Int}
    (hr : legalSamplingFrequency tables version r) : (intPort r).toInt = r := by
  obtain rfl | ⟨t, n, -, hn, rfl⟩ := hr
  · decide
  · exact toInt_intPort_natCast (sfRom_tables_lt n hn)

/-! ### The statements of 41_field_tables.md -/

/-- Settles O8: the index tests, the empty selection and the selected table's entry are the cases of
the rate; what it can answer fits the port. -/
theorem brlookupWritesItsResultPort : Obligations.BrlookupWritesItsResultPort := by
  intro s version layer index
  have hdecode := decodeBrtab_append version layer index
  refine ⟨hdecode, bitRate tables version layer index.toNat, ?_, ?_, ?_, ?_, ?_, ?_, ?_⟩
  · rw [hdecode, exec_brlookup]
  · rintro rfl; rfl
  · rintro rfl; exact bitRateFrom_of_le tables _ le_rfl
  · intro h0 h15 hnone
    exact bitRate_of_none tables hnone (bitRateIndex_bounds h0 h15).1
  · intro t h0 h15 ht
    obtain ⟨h1, h14⟩ := bitRateIndex_bounds h0 h15
    obtain ⟨n, hn, hrate⟩ := bitRate_entry tables t h1 h14
    exact ⟨n, hn, hrate version layer ht⟩
  · exact toInt_intPort_of_legalBitRate (legalBitRate_bitRate tables version layer index.toNat)
  · rintro rfl rfl rfl; rfl

/-- Settles O9: the empty selection, the entry 3 every table lacks and the selected table's entry
are the cases of the frequency; what it can answer fits the port. -/
theorem sflookupWritesItsResultPort : Obligations.SflookupWritesItsResultPort := by
  intro s version index
  have hdecode := decodeSftab_append version index
  refine ⟨hdecode, samplingFrequency tables version index.toNat, ?_, ?_, ?_, ?_, ?_, ?_⟩
  · rw [hdecode, exec_sflookup]
  · exact samplingFrequency_of_none tables index.toNat
  · rintro rfl; exact samplingFrequency_three tables version
  · intro t h3 ht
    obtain ⟨n, hn, hfreq⟩ := samplingFrequency_entry tables t (samplingIndex_lt h3)
    exact ⟨n, hn, hfreq version ht⟩
  · exact toInt_intPort_of_legalSamplingFrequency
      (legalSamplingFrequency_samplingFrequency tables version index.toNat)
  · rintro rfl rfl; rfl

/-- Settles O15: a record's integers and the lookups' results are legal, and a legal integer is read
back from its port. -/
theorem integerPortsCarryTheirValue : Obligations.IntegerPortsCarryTheirValue := by
  refine ⟨fun h => ?_, fun version layer index => ?_, fun version index => ?_,
    by decide, by decide, by decide, by decide, by decide⟩
  · obtain ⟨hrate, hfreq⟩ := legalRecord_closedForm tables h
    rw [decodeWord_eq_closedForm]
    exact ⟨toInt_intPort_of_legalBitRate hrate, toInt_intPort_of_legalSamplingFrequency hfreq⟩
  · exact toInt_intPort_of_legalBitRate (legalBitRate_bitRate tables version layer index.toNat)
  · exact toInt_intPort_of_legalSamplingFrequency
      (legalSamplingFrequency_samplingFrequency tables version index.toNat)

/-- Settles O10: the tests for 0 and 15 answer before the selection is looked at. -/
theorem sentinelIndicesComeBeforeSelection : Obligations.SentinelIndicesComeBeforeSelection :=
  fun c version layer => ⟨rfl, bitRateFrom_of_le c _ le_rfl,
    fun hcodes _ h1 _ => bitRate_of_none c ((brSelect_eq_none_iff version layer).2 hcodes) h1⟩

/-- Settles O12: the keys select the same table. -/
theorem sharedTablesNeverDiffer : Obligations.SharedTablesNeverDiffer :=
  fun c layer index =>
    ⟨(bitRate_eq_of_brSelect_eq c (brSelect_of_low_bit_zero 2#2 layer rfl) index).symm,
      bitRate_eq_of_brSelect_eq c (by decide) index,
      bitRate_eq_of_brSelect_eq c (by decide) index⟩

/-- Settles O13: the listed numbers are the machine's tables, and each pair selects its table. -/
theorem defaultBitRates : Obligations.DefaultBitRates := by
  intro s index h0 h15
  obtain ⟨a, ha, hV1L1⟩ := exec_brlookup_entry .brV1L1 h0 h15 s
  obtain ⟨b, hb, hV1L2⟩ := exec_brlookup_entry .brV1L2 h0 h15 s
  obtain ⟨c, hc, hV1L3⟩ := exec_brlookup_entry .brV1L3 h0 h15 s
  obtain ⟨d, hd, hV2L1⟩ := exec_brlookup_entry .brV2L1 h0 h15 s
  obtain ⟨e, he, hV2L23⟩ := exec_brlookup_entry .brV2L23 h0 h15 s
  exact ⟨a, b, c, d, e, ha, hb, hc, hd, he, hV1L1 3#2 3#2 rfl, hV1L2 3#2 2#2 rfl,
    hV1L3 3#2 1#2 rfl, hV2L1 2#2 3#2 rfl, hV2L1 0#2 3#2 rfl, hV2L23 2#2 2#2 rfl,
    hV2L23 2#2 1#2 rfl, hV2L23 0#2 2#2 rfl, hV2L23 0#2 1#2 rfl⟩

/-- Settles O14: the listed numbers are the machine's tables, and each version selects its table or
none. -/
theorem defaultSamplingFrequencies : Obligations.DefaultSamplingFrequencies := by
  intro s index h3
  obtain ⟨a, ha, hV1⟩ := exec_sflookup_entry .sfV1 h3 s
  obtain ⟨b, hb, hV2⟩ := exec_sflookup_entry .sfV2 h3 s
  obtain ⟨c, hc, hV25⟩ := exec_sflookup_entry .sfV25 h3 s
  refine ⟨a, b, c, ha, hb, hc, hV1 3#2 rfl, hV2 2#2 rfl, hV25 0#2 rfl, ?_⟩
  rw [exec_sflookup, samplingFrequency_of_none tables index.toNat rfl]

end Sys2Proof.Machine

/-! ## The Header Decoder (42_header_decoder.md) -/

namespace Sys2Proof.Machine

/-! ### The header that four octets make (R31, R90) -/

/-- Any four octets are those of one header word, so what is shown of a header's octets holds of
every operand of DECODE. -/
theorem exists_wordOctets (b0 b1 b2 b3 : Octet) : ∃ h : HeaderWord,
    wordOctet0 h = b0 ∧ wordOctet1 h = b1 ∧ wordOctet2 h = b2 ∧ wordOctet3 h = b3 :=
  ⟨_, Instr.decode.inj (decodeHdr_append b0 b1 b2 b3)⟩

/-- DECODE of a header's octets loads the closed form of the header, and changes nothing else. -/
theorem exec_decode_wordOctets (h : HeaderWord) (s : State) :
    exec (.decode (wordOctet0 h) (wordOctet1 h) (wordOctet2 h) (wordOctet3 h)) s =
      .next { s with outValid := true, out := some (closedForm tables h) } :=
  exec_of_headerWord (i := decodeHdr h) (congrArg some (append_wordOctets h)) s

/-- A bit of a part of a word is a bit of the word. -/
theorem getLsbD_extractLsb'_of_lt {W : Nat} (h : BitVec W) (l n j : Nat) (hj : j < n) :
    (h.extractLsb' l n).getLsbD j = h.getLsbD (l + j) := by
  rw [BitVec.getLsbD_extractLsb', decide_eq_true hj, Bool.true_and]

/-! ### The bits the record keeps (R105) -/

/-- The 26 bits a record determines, each in its place in the header; the two indices read as 0. -/
def keptBits (f : FrameHeader) : HeaderWord :=
  (f.frameSync ++ f.version ++ f.layer ++ boolPort (!f.isProtected)) ++ 0#6 ++
    (boolPort f.padding ++ boolPort f.isPrivate ++ f.channelMode ++ f.modeExtension ++
      boolPort f.isCopyrighted ++ boolPort f.isOriginal ++ f.emphasis)

/-- A bit on its port is the one-bit part of the word. -/
theorem boolPort_getLsbD {W : Nat} (h : BitVec W) (i : Nat) :
    boolPort (h.getLsbD i) = h.extractLsb' i 1 := by
  refine BitVec.eq_of_getLsbD_eq fun j hj => ?_
  obtain rfl : j = 0 := by omega
  simp [boolPort]

/-- The mask of the 26 bits keeps the part above the indices and the part below them. -/
theorem and_keptMask (h : HeaderWord) :
    h &&& 0xFFFF03FF#32 = h.extractLsb' 16 16 ++ 0#6 ++ h.extractLsb' 0 10 :=
  calc h &&& 0xFFFF03FF#32
    _ = (h.extractLsb' 16 16 ++ h.extractLsb' 10 6 ++ h.extractLsb' 0 10) &&&
          (BitVec.allOnes 16 ++ 0#6 ++ BitVec.allOnes 10) :=
      congrArg₂ (· &&& ·) (append_extractLsb'_middle 16 6 10 h).symm rfl
    _ = h.extractLsb' 16 16 ++ 0#6 ++ h.extractLsb' 0 10 := by
      simp only [BitVec.and_append, BitVec.and_allOnes, BitVec.and_zero]

/-- The 26 bits of the header can be read back from its record. -/
theorem keptBits_decodeWord (c : Config) (h : HeaderWord) :
    keptBits (decodeWord c h) = h &&& 0xFFFF03FF#32 := by
  rw [decodeWord_eq_closedForm, and_keptMask]
  simp only [keptBits, closedForm, Bool.not_not, boolPort_getLsbD]
  -- Nine pairs of neighbouring slices join into the two parts the mask keeps.
  iterate 9 rw [BitVec.extractLsb'_append_extractLsb'_eq_extractLsb']
  all_goals rfl

/-- The bit-rate index is no part of any field but the rate (R95, R115). -/
theorem decodeWord_append_bitRateIndex (c : Config) (hi : BitVec 16) (n n' : BitVec 4)
    (lo : BitVec 12) :
    decodeWord c (hi ++ n' ++ lo) = { decodeWord c (hi ++ n ++ lo) with
      bitRateKbps := bitRate c (hi.extractLsb' 3 2) (hi.extractLsb' 1 2) n'.toNat } := by
  have hupper (k : BitVec 4) (j m : Nat) (hj : 12 ≤ j) (hk : 4 ≤ j - 12) :
      (hi ++ k ++ lo : HeaderWord).extractLsb' j m = hi.extractLsb' (j - 12 - 4) m :=
    (BitVec.extractLsb'_append_eq_of_le hj).trans (BitVec.extractLsb'_append_eq_of_le hk)
  have hlower (k : BitVec 4) (j m : Nat) (hj : j + m ≤ 12) :
      (hi ++ k ++ lo : HeaderWord).extractLsb' j m = lo.extractLsb' j m :=
    BitVec.extractLsb'_append_eq_of_add_le hj
  have hprot (k : BitVec 4) : (hi ++ k ++ lo : HeaderWord).getLsbD 16 = hi.getLsbD 0 := by
    rw [BitVec.getLsbD_append, if_neg (by decide), BitVec.getLsbD_append, if_neg (by decide)]
  have hbit (k : BitVec 4) (j : Nat) (hj : j < 12) :
      (hi ++ k ++ lo : HeaderWord).getLsbD j = lo.getLsbD j := by
    rw [BitVec.getLsbD_append, if_pos hj]
  rw [decodeWord_eq_closedForm, decodeWord_eq_closedForm]
  simp only [closedForm, hupper, hlower, hprot, hbit, Nat.reduceSub, Nat.reduceAdd,
    Nat.reduceLeDiff, Nat.reduceLT]
  rw [extractLsb'_append_middle hi n' lo]

/-- Where no table is selected the rate does not tell one nonzero index from another (R74, R105). -/
theorem bitRate_eq_of_reserved (c : Config) {version layer : Code2}
    (hcodes : version = 1#2 ∨ layer = 0#2) {i j : BitVec 4} (hi : i ≠ 0#4) (hj : j ≠ 0#4) :
    bitRate c version layer i.toNat = bitRate c version layer j.toNat := by
  rw [bitRate, bitRate, (brSelect_eq_none_iff _ _).2 hcodes, bitRateFrom_none, bitRateFrom_none,
    if_neg hi, if_neg hj]

/-! ### The statements of 42_header_decoder.md -/

/-- Settles O24: any four octets are those of a header, where the two forms agree. -/
theorem decodeEqualsClosedForm : Obligations.DecodeEqualsClosedForm := by
  intro c b0 b1 b2 b3
  obtain ⟨h, rfl, rfl, rfl, rfl⟩ := exists_wordOctets b0 b1 b2 b3
  rw [append_wordOctets]
  exact decodeWord_eq_closedForm c h

/-- Settles O20: each field of `w16` is a field of the header, at the same place in its upper
half. -/
theorem decodeLoadsFieldsOfFirstTwoOctets : Obligations.DecodeLoadsFieldsOfFirstTwoOctets := by
  intro s b0 b1 b2 b3
  obtain ⟨h, rfl, rfl, rfl, rfl⟩ := exists_wordOctets b0 b1 b2 b3
  have hw16 : wordOctet0 h ++ wordOctet1 h = h.extractLsb' 16 16 := w16Of_wordOctets h
  have hslice (j m : Nat) (hj : j + m ≤ 16) :
      h.extractLsb' (16 + j) m = (h.extractLsb' 16 16).extractLsb' j m :=
    (extractLsb'_extractLsb' h 16 16 hj).symm
  rw [append_wordOctets, hw16]
  exact ⟨_, exec_decode_wordOctets h s,
    (setWidth_extractW_rest h 16 16 5 11 rfl).symm,
    hslice 5 11 (by decide), rfl,
    (setWidth_extractW_exact h 16 16 3 2 (by decide)).symm,
    hslice 3 2 (by decide), rfl,
    (setWidth_extractW_exact h 16 16 1 2 (by decide)).symm,
    hslice 1 2 (by decide), rfl,
    (extractW_exact_one_beq_zero h 16 16 0 (by decide)).symm,
    congrArg (! ·) (getLsbD_extractLsb'_of_lt h 16 16 0 (by decide)).symm, rfl⟩

/-- Settles O21: both bits are bits of the third octet and, eight places up, of the header. -/
theorem decodeLoadsPaddingAndPrivate : Obligations.DecodeLoadsPaddingAndPrivate := by
  intro s b0 b1 b2 b3
  obtain ⟨h, rfl, rfl, rfl, rfl⟩ := exists_wordOctets b0 b1 b2 b3
  rw [append_wordOctets]
  exact ⟨_, exec_decode_wordOctets h s,
    (extractW_exact_one_beq h 8 8 1 (by decide)).symm,
    (getLsbD_extractLsb'_of_lt h 8 8 1 (by decide)).symm, rfl,
    (extractW_exact_one_beq h 8 8 0 (by decide)).symm,
    (getLsbD_extractLsb'_of_lt h 8 8 0 (by decide)).symm, rfl⟩

/-- Settles O22: the indices are fields of the third octet; a lookup reads its code bits and its
index alone. -/
theorem decodeLoadsLookedUpIntegers : Obligations.DecodeLoadsLookedUpIntegers := by
  refine ⟨fun s b0 b1 b2 b3 => ?_,
    fun c h k => ⟨fun hcodes hindex => ?_, fun hversion hindex => ?_⟩⟩
  · obtain ⟨h, rfl, rfl, rfl, rfl⟩ := exists_wordOctets b0 b1 b2 b3
    rw [append_wordOctets]
    have hbri : (extract8 (wordOctet2 h) 4#3 .rest).toNat = (h.extractLsb' 12 4).toNat :=
      toNat_extractW_rest_extractLsb' h 8 8 4 4 rfl
    have hsfi : (extract8 (wordOctet2 h) 2#3 (.exact 2)).toNat = (h.extractLsb' 10 2).toNat :=
      toNat_extractW_exact_extractLsb' h 8 8 2 2 (by decide)
    have hbrSlice : (wordOctet2 h).extractLsb' 4 4 = h.extractLsb' 12 4 :=
      extractLsb'_extractLsb' h 8 8 (by decide)
    have hsfSlice : (wordOctet2 h).extractLsb' 2 2 = h.extractLsb' 10 2 :=
      extractLsb'_extractLsb' h 8 8 (by decide)
    rw [hbri, hsfi, hbrSlice, hsfSlice]
    exact ⟨_, exec_decode_wordOctets h s, rfl, rfl, rfl, rfl, rfl, rfl,
      legalRecord_closedForm tables h⟩
  · rw [decodeWord_eq_closedForm, decodeWord_eq_closedForm,
      closedForm_bitRate (brSelect_of_codes hcodes) hindex,
      closedForm_bitRate (brSelect_of_codes rfl) rfl]
  · rw [decodeWord_eq_closedForm, decodeWord_eq_closedForm,
      closedForm_samplingFrequency (congrArg sfSelect hversion) hindex,
      closedForm_samplingFrequency rfl rfl]

/-- Settles O23: the last octet is the low end of the header, so its fields stand at one place in
both. -/
theorem decodeLoadsFieldsOfLastOctet : Obligations.DecodeLoadsFieldsOfLastOctet := by
  intro s b0 b1 b2 b3
  obtain ⟨h, rfl, rfl, rfl, rfl⟩ := exists_wordOctets b0 b1 b2 b3
  have hslice (j m : Nat) (hj : j + m ≤ 8) :
      h.extractLsb' (0 + j) m = (wordOctet3 h).extractLsb' j m :=
    (extractLsb'_extractLsb' h 0 8 hj).symm
  rw [append_wordOctets]
  exact ⟨_, exec_decode_wordOctets h s,
    (setWidth_extractW_rest h 0 8 6 2 rfl).symm,
    hslice 6 2 (by decide), rfl,
    (setWidth_extractW_exact h 0 8 4 2 (by decide)).symm,
    hslice 4 2 (by decide), rfl,
    (extractW_exact_one_beq h 0 8 3 (by decide)).symm,
    (getLsbD_extractLsb'_of_lt h 0 8 3 (by decide)).symm, rfl,
    (extractW_exact_one_beq h 0 8 2 (by decide)).symm,
    (getLsbD_extractLsb'_of_lt h 0 8 2 (by decide)).symm, rfl,
    (setWidth_extractW_exact h 0 8 0 2 (by decide)).symm,
    hslice 0 2 (by decide), rfl⟩

/-- Settles O25: the 26 bits are read back from the record; with a reserved code every nonzero
index is looked up to -1, and the index enters no other field. -/
theorem recordKeepsTwentySixBits : Obligations.RecordKeepsTwentySixBits := by
  refine ⟨fun c h k hrecord => ?_, fun c hi lo i j hi0 hj0 hcodes => ?_⟩
  · rw [← keptBits_decodeWord c h, hrecord, keptBits_decodeWord]
  · rw [decodeWord_append_bitRateIndex c hi j i lo, bitRate_eq_of_reserved c hcodes hi0 hj0,
      ← decodeWord_append_bitRateIndex]

/-- Settles O26: the sync is a field of the upper half, and no other field reads it. -/
theorem syncChangesNoOtherField : Obligations.SyncChangesNoOtherField := by
  refine ⟨fun c h => ?_, decodeWord_append_frameSync⟩
  rw [decodeWord_eq_closedForm]
  exact ⟨(setWidth_extractW_rest h 16 16 5 11 rfl).symm,
    (extractLsb'_extractLsb' h 16 16 (j := 5) (by decide)).symm, rfl⟩

/-- Settles O33: each row's claimed field is the one DECODE gives. -/
theorem classRowsDoWhatDecodeDoes : Obligations.ClassRowsDoWhatDecodeDoes :=
  fun _ _ s hi => exec_eq_exec_decodeHdr hi s

/-- Settles O41: reset and idle edges read no header; an accepting edge is DECODE of its header. -/
theorem wrapperStepsAtEachEdge : Obligations.WrapperStepsAtEachEdge :=
  fun s rest _ hdr => ⟨rfl, step_cons_header hdr s rest, rfl⟩

/-- Settles O42: with nothing to take, the step is an idle edge of the state itself. -/
theorem nothingPresentedIsAnIdleEdge : Obligations.NothingPresentedIsAnIdleEdge := by
  intro s hs
  rw [step, nextEvent_nil hs]
  rfl

end Sys2Proof.Machine

/-! ## Exceptions and in-band conditions (60_exceptions.md) -/

namespace Sys2Proof.Machine

/-! ### Every step answers (R109, R124) -/

/-- Every step answers a next state: an edge without a header is never refused, and the presented
instruction completes. -/
theorem step_completes (s : State) : ∃ t, step s = .next t := by
  obtain ⟨event, s', hnext⟩ : ∃ event s', nextEvent s = (event, s') := ⟨_, _, rfl⟩
  rw [step, hnext]
  cases event with
  | reset => exact ⟨_, rfl⟩
  | idle => exact ⟨_, rfl⟩
  | operation i => exact exec_completes i s'

/-! ### Which lookup gives which value (R73, R82, R110) -/

/-- What each bit-rate index gives: the sentinels of indices 0 and 15, and between them -1 where the
codes select no table, or an entry of the table they select. -/
theorem bitRate_cases (c : Config) (version layer : Code2) (index : BitVec 4) :
    (index = 0#4 ∧ bitRate c version layer index.toNat = 0) ∨
    (index = 15#4 ∧ bitRate c version layer index.toNat = -1) ∨
    (index ≠ 0#4 ∧ index ≠ 15#4 ∧
      (((version = 1#2 ∨ layer = 0#2) ∧ bitRate c version layer index.toNat = -1) ∨
      (¬(version = 1#2 ∨ layer = 0#2) ∧
        ∃ t, ∃ n ∈ (brRom c t).toList, bitRate c version layer index.toNat = n))) := by
  by_cases h0 : index = 0#4
  · exact .inl ⟨h0, by rw [h0]; rfl⟩
  by_cases h15 : index = 15#4
  · exact .inr (.inl ⟨h15, by rw [h15]; rfl⟩)
  refine .inr (.inr ⟨h0, h15, ?_⟩)
  obtain ⟨h1, h14⟩ := bitRateIndex_bounds h0 h15
  rw [← brSelect_eq_none_iff]
  cases ht : brSelect version layer with
  | none => exact .inl ⟨rfl, bitRate_of_none c ht h1⟩
  | some t =>
    obtain ⟨n, hn, hrate⟩ := bitRate_entry c t h1 h14
    exact .inr ⟨nofun, t, n, List.mem_of_getElem? hn, hrate version layer ht⟩

/-- What each sampling-frequency index gives: -1 at index 3 or where the version selects no table,
and otherwise an entry of the table it selects. -/
theorem samplingFrequency_cases (c : Config) (version index : Code2) :
    ((index = 3#2 ∨ version = 1#2) ∧ samplingFrequency c version index.toNat = -1) ∨
    (¬(index = 3#2 ∨ version = 1#2) ∧
      ∃ t, ∃ n ∈ (sfRom c t).toList, samplingFrequency c version index.toNat = n) := by
  by_cases h3 : index = 3#2
  · exact .inl ⟨.inl h3, by rw [h3]; exact samplingFrequency_three c version⟩
  rw [← sfSelect_eq_none_iff, or_iff_right h3]
  cases ht : sfSelect version with
  | none => exact .inl ⟨rfl, samplingFrequency_of_none c _ ht⟩
  | some t =>
    obtain ⟨n, hn, hfrequency⟩ := samplingFrequency_entry c t (samplingIndex_lt h3)
    exact .inr ⟨nofun, t, n, List.mem_of_getElem? hn, hfrequency version ht⟩

/-- With allowed tables a rate of 0 has one cause, index 0 (R26, R110 S1). -/
theorem bitRate_eq_zero_iff {c : Config} (hc : configOk c = true) (version layer : Code2)
    (index : BitVec 4) : bitRate c version layer index.toNat = 0 ↔ index = 0#4 := by
  obtain ⟨rfl, hrate⟩ | ⟨rfl, hrate⟩ | ⟨h0, -, ⟨-, hrate⟩ | ⟨-, t, n, hn, hrate⟩⟩ :=
    bitRate_cases c version layer index
  all_goals rw [hrate]
  · decide
  · decide
  · simp [h0]
  · simp [h0, (brRom_pos hc hn).ne']

/-- A rate of -1 has two causes: index 15, or no table selected at an index that would read one
(R110 S2, S3). -/
theorem bitRate_eq_neg_one_iff (c : Config) (version layer : Code2) (index : BitVec 4) :
    bitRate c version layer index.toNat = -1 ↔
      index = 15#4 ∨ (index ≠ 0#4 ∧ index ≠ 15#4 ∧ (version = 1#2 ∨ layer = 0#2)) := by
  obtain ⟨rfl, hrate⟩ | ⟨rfl, hrate⟩ | ⟨h0, h15, ⟨hcodes, hrate⟩ | ⟨hcodes, t, n, -, hrate⟩⟩ :=
    bitRate_cases c version layer index
  all_goals rw [hrate]
  · simp
  · simp
  · simp [h0, h15, hcodes]
  · simp only [h15, hcodes, and_false, or_false, iff_false]
    omega

/-- A frequency of -1 has two causes: index 3 and the reserved version (R110 S4, S5). -/
theorem samplingFrequency_eq_neg_one_iff (c : Config) (version index : Code2) :
    samplingFrequency c version index.toNat = -1 ↔ index = 3#2 ∨ version = 1#2 := by
  obtain ⟨hcause, hfrequency⟩ | ⟨hcause, t, n, -, hfrequency⟩ :=
    samplingFrequency_cases c version index
  all_goals rw [hfrequency]
  · simp [hcause]
  · simp only [hcause, iff_false]
    omega

/-! ### The in-band conditions of a header (R110) -/

section
variable (c : Config) (h : HeaderWord)

/-- A header's rate is 0 exactly for S1. -/
theorem closedForm_bitRate_eq_zero_iff (hc : configOk c = true) :
    (closedForm c h).bitRateKbps = 0 ↔ conditionCause .freeFormat h = true :=
  (bitRate_eq_zero_iff hc _ _ _).trans beq_iff_eq.symm

/-- A header's rate is -1 exactly for S2 and S3, which it does not tell apart. -/
theorem closedForm_bitRate_eq_neg_one_iff :
    (closedForm c h).bitRateKbps = -1 ↔
      conditionCause .badBitRateIndex h = true ∨ conditionCause .unsupportedPair h = true := by
  simp only [closedForm, bitRate_eq_neg_one_iff, conditionCause, Bool.and_eq_true, Bool.or_eq_true,
    beq_iff_eq, bne_iff_ne, and_assoc]

/-- A header's frequency is -1 exactly for S4 and S5. -/
theorem closedForm_samplingFrequency_eq_neg_one_iff :
    (closedForm c h).samplingFrequencyHz = -1 ↔
      conditionCause .reservedSamplingIndex h = true ∨
        conditionCause .reservedVersionSampling h = true := by
  simp only [closedForm, samplingFrequency_eq_neg_one_iff, conditionCause, beq_iff_eq]

end

/-! ### Replacing one part of a header (R104, R115) -/

section
variable {a n l : Nat} (hi : BitVec a) (k : BitVec n) (lo : BitVec l)

/-- A field above the middle part is a field of the upper part. -/
theorem extractLsb'_append_above {j : Nat} (m : Nat) (hj : l + n ≤ j) :
    (hi ++ k ++ lo).extractLsb' j m = hi.extractLsb' (j - (l + n)) m := by
  rw [BitVec.extractLsb'_append_eq_of_le (by omega), BitVec.extractLsb'_append_eq_of_le (by omega),
    Nat.sub_sub]

/-- A field below the middle part is a field of the lower part. -/
theorem extractLsb'_append_below {j m : Nat} (hj : j + m ≤ l) :
    (hi ++ k ++ lo).extractLsb' j m = lo.extractLsb' j m :=
  BitVec.extractLsb'_append_eq_of_add_le hj

/-- A bit above the middle part is a bit of the upper part. -/
theorem getLsbD_append_above {j : Nat} (hj : l + n ≤ j) :
    (hi ++ k ++ lo).getLsbD j = hi.getLsbD (j - (l + n)) := by
  rw [BitVec.getLsbD_append, if_neg (by omega), BitVec.getLsbD_append, if_neg (by omega),
    Nat.sub_sub]

/-- A bit below the middle part is a bit of the lower part. -/
theorem getLsbD_append_below {j : Nat} (hj : j < l) :
    (hi ++ k ++ lo).getLsbD j = lo.getLsbD j := by
  rw [BitVec.getLsbD_append, if_pos hj]

end

/-- The version is no part of any field but itself and the two integers looked up from it. -/
theorem decodeWord_append_version (c : Config) (sync : BitVec 11) (v v' : Code2)
    (lo : BitVec 19) :
    decodeWord c (sync ++ v' ++ lo) = { decodeWord c (sync ++ v ++ lo) with
      version := v'
      bitRateKbps := bitRate c v' (lo.extractLsb' 17 2) (lo.extractLsb' 12 4).toNat
      samplingFrequencyHz := samplingFrequency c v' (lo.extractLsb' 10 2).toNat } := by
  rw [decodeWord_eq_closedForm, decodeWord_eq_closedForm]
  simp (disch := decide) only [closedForm, extractLsb'_append_above sync,
    extractLsb'_append_below sync, getLsbD_append_below sync, extractLsb'_append_middle sync]

/-- The layer is no part of any field but itself and the rate. -/
theorem decodeWord_append_layer (c : Config) (hi : BitVec 13) (l l' : Code2) (lo : BitVec 17) :
    decodeWord c (hi ++ l' ++ lo) = { decodeWord c (hi ++ l ++ lo) with
      layer := l'
      bitRateKbps := bitRate c (hi.extractLsb' 0 2) l' (lo.extractLsb' 12 4).toNat } := by
  rw [decodeWord_eq_closedForm, decodeWord_eq_closedForm]
  simp (disch := decide) only [closedForm, extractLsb'_append_above hi,
    extractLsb'_append_below hi, getLsbD_append_below hi, extractLsb'_append_middle hi]

/-- The sampling-frequency index is no part of any field but the frequency. -/
theorem decodeWord_append_samplingIndex (c : Config) (hi : BitVec 20) (j j' : Code2)
    (lo : BitVec 10) :
    decodeWord c (hi ++ j' ++ lo) = { decodeWord c (hi ++ j ++ lo) with
      samplingFrequencyHz := samplingFrequency c (hi.extractLsb' 7 2) j'.toNat } := by
  rw [decodeWord_eq_closedForm, decodeWord_eq_closedForm]
  simp (disch := decide) only [closedForm, extractLsb'_append_above hi,
    extractLsb'_append_below hi, getLsbD_append_above hi, getLsbD_append_below hi,
    extractLsb'_append_middle hi]

/-! ### The statements of 60_exceptions.md -/

/-- Settles O47: the integers report their causes by the three equivalences, and the codes are
loaded as they stand in the header. -/
theorem inBandConditionsAreReported : Obligations.InBandConditionsAreReported := by
  intro c h hc
  rw [decodeWord_eq_closedForm]
  have hzero := closedForm_bitRate_eq_zero_iff c h hc
  have hrate := closedForm_bitRate_eq_neg_one_iff c h
  have hfrequency := closedForm_samplingFrequency_eq_neg_one_iff c h
  refine ⟨fun k hk => ?_, hzero.1, hrate.1, hfrequency.1, rfl, rfl, rfl⟩
  cases k with
  | freeFormat => exact beq_iff_eq.2 (hzero.2 hk)
  | badBitRateIndex => exact beq_iff_eq.2 (hrate.2 (.inl hk))
  | unsupportedPair => exact beq_iff_eq.2 (hrate.2 (.inr hk))
  | reservedSamplingIndex => exact beq_iff_eq.2 (hfrequency.2 (.inl hk))
  | reservedVersionSampling => exact beq_iff_eq.2 (hfrequency.2 (.inr hk))
  | reservedVersion => exact hk
  | reservedLayer => exact hk
  | reservedEmphasis => exact hk

/-- Settles O56, one part of the header at a time. -/
theorem codesAndIndicesChangeOnlyTheirFields :
    Obligations.CodesAndIndicesChangeOnlyTheirFields :=
  ⟨decodeWord_append_version, decodeWord_append_layer, decodeWord_append_bitRateIndex,
    decodeWord_append_samplingIndex⟩

/-- Settles O44: an instruction always writes its value, and a step runs an edge or an
instruction. -/
theorem nothingFaultsOrRefuses : Obligations.NothingFaultsOrRefuses :=
  ⟨exec_completes, step_completes⟩

end Sys2Proof.Machine

/-! ## Reset and the host's checks (70_reset_and_hazards.md) -/

namespace Sys2Proof

open Machine

/-! ### A class row as a Boolean test of its field (30_encoding.md, head) -/

/-- A row applies where its field holds its code. -/
theorem Row.applies_eq_beq (r : Row) (h : HeaderWord) :
    r.applies h = (h.extractLsb' r.fixed.lsb r.fixed.width == r.fixed.code) := by
  rw [Bool.eq_iff_iff, Row.applies_iff, beq_iff_eq]

/-- `PROT.0` applies where the protection bit is 0 (R44, R132). -/
theorem Row.prot0_applies (h : HeaderWord) : Row.prot0.applies h = !h.getLsbD 16 := by
  have hbit : Row.prot0.applies h = (boolPort (h.getLsbD 16) == 0#1) := by
    rw [boolPort_getLsbD]
    exact Row.applies_eq_beq .prot0 h
  rw [hbit]
  cases h.getLsbD 16 <;> rfl

end Sys2Proof

namespace Sys2Proof.Machine

/-! ### Which input a list's latest write is (R24, R136) -/

/-- The latest write of a list is the write of one of its inputs. -/
theorem exists_mem_of_lastWrite {es : List Input} {w : Option HeaderWord}
    (h : lastWrite es = some w) : ∃ e ∈ es, lastWrite [e] = some w := by
  induction es with
  | nil => cases h
  | cons e es ih =>
    rw [lastWrite_cons, Option.or_eq_some_iff] at h
    obtain hlater | ⟨-, hfirst⟩ := h
    · obtain ⟨e', hmem, hwrite⟩ := ih hlater
      exact ⟨e', List.mem_cons_of_mem e hmem, hwrite⟩
    · exact ⟨e, List.mem_cons_self, hfirst⟩

/-- A list whose latest write loads a header has the accepting edge of that header (R107). -/
theorem mem_of_lastWrite_load {es : List Input} {h : HeaderWord}
    (hes : lastWrite es = some (some h)) : Input.edge false true h ∈ es := by
  obtain ⟨e, hmem, hwrite⟩ := exists_mem_of_lastWrite hes
  match e, hwrite with
  | .edge false true _, rfl => exact hmem

/-- A list whose latest write is a reset has a reset edge (R107). -/
theorem exists_reset_of_lastWrite_reset {es : List Input} (hes : lastWrite es = some none) :
    ∃ v k, Input.edge true v k ∈ es := by
  obtain ⟨e, hmem, hwrite⟩ := exists_mem_of_lastWrite hes
  match e, hwrite with
  | .edge true v k, _ => exact ⟨v, k, hmem⟩

/-- After a reset edge and inputs that load no header, `OUT` holds no value (R24). -/
theorem outAfter_reset_cons (held : Option FrameHeader) (valid : Bool) (hdr : HeaderWord)
    {es : List Input} (hes : ∀ k, Input.edge false true k ∉ es) :
    outAfter held (lastWrite (.edge true valid hdr :: es)) = none := by
  rw [lastWrite_cons, outAfter_or]
  match hw : lastWrite es with
  | none | some none => rfl
  | some (some k) => exact absurd (mem_of_lastWrite_load hw) (hes k)

/-- After a header and inputs without a reset edge, `OUT` holds a record (R24). -/
theorem outAfter_header_cons (held : Option FrameHeader) (h : HeaderWord) {es : List Input}
    (hes : ∀ v k, Input.edge true v k ∉ es) :
    ∃ f, outAfter held (lastWrite (.edge false true h :: es)) = some f := by
  rw [lastWrite_cons, outAfter_or]
  match hw : lastWrite es with
  | none | some (some _) => exact ⟨_, rfl⟩
  | some none =>
    obtain ⟨v, k, hmem⟩ := exists_reset_of_lastWrite_reset hw
    exact absurd hmem (hes v k)

/-! ### The sign of a legal integer (R15, R131) -/

section
variable {c : Config} {version layer : Code2} {r : Int}

/-- No legal rate lies below the sentinel -1. -/
theorem neg_one_le_of_legalBitRate (hr : legalBitRate c version layer r) : -1 ≤ r := by
  obtain rfl | rfl | ⟨t, n, -, -, rfl⟩ := hr <;> omega

/-- No legal frequency lies below the sentinel -1. -/
theorem neg_one_le_of_legalSamplingFrequency (hr : legalSamplingFrequency c version r) :
    -1 ≤ r := by
  obtain rfl | ⟨t, n, -, -, rfl⟩ := hr <;> omega

/-- With allowed tables no legal frequency is 0: it has no free format (R27). -/
theorem ne_zero_of_legalSamplingFrequency (hc : configOk c = true)
    (hr : legalSamplingFrequency c version r) : r ≠ 0 := by
  obtain rfl | ⟨t, n, -, hn, rfl⟩ := hr
  · decide
  · exact Int.natCast_ne_zero.2 (sfRom_pos hc hn).ne'

/-- Codes that select no table leave a legal rate only the sentinels (R134). -/
theorem legalBitRate_of_none (hr : legalBitRate c version layer r)
    (hnone : brSelect version layer = none) : r = 0 ∨ r = -1 := by
  obtain h0 | h1 | ⟨t, n, ht, -⟩ := hr
  · exact .inl h0
  · exact .inr h1
  · simp [hnone] at ht

/-- A version that selects no table leaves a legal frequency only the sentinel (R134). -/
theorem legalSamplingFrequency_of_none (hr : legalSamplingFrequency c version r)
    (hnone : sfSelect version = none) : r = -1 := by
  obtain h1 | ⟨t, n, ht, -⟩ := hr
  · exact h1
  · simp [hnone] at ht

end

/-! ### Which lookups are non-negative and which are positive (R131) -/

/-- A rate is non-negative where it is not -1; index 0 passes (R131). -/
theorem bitRate_nonneg_iff (c : Config) (version layer : Code2) (index : Nat) :
    0 ≤ bitRate c version layer index ↔ bitRate c version layer index ≠ -1 := by
  have := neg_one_le_of_legalBitRate (legalBitRate_bitRate c version layer index)
  omega

/-- A frequency is non-negative where it is not -1 (R131). -/
theorem samplingFrequency_nonneg_iff (c : Config) (version : Code2) (index : Nat) :
    0 ≤ samplingFrequency c version index ↔ samplingFrequency c version index ≠ -1 := by
  have := neg_one_le_of_legalSamplingFrequency
    (legalSamplingFrequency_samplingFrequency c version index)
  omega

/-- A rate is positive exactly when a table is selected and read (R131). -/
theorem bitRate_pos_iff {c : Config} (hc : configOk c = true) (version layer : Code2)
    (index : BitVec 4) : 0 < bitRate c version layer index.toNat ↔
      index ≠ 0#4 ∧ index ≠ 15#4 ∧ version ≠ 1#2 ∧ layer ≠ 0#2 := by
  rw [lt_iff_le_and_ne', bitRate_nonneg_iff, ne_eq, ne_eq, bitRate_eq_neg_one_iff,
    bitRate_eq_zero_iff hc]
  tauto

/-- A frequency is positive exactly when a table is selected and read (R131). -/
theorem samplingFrequency_pos_iff {c : Config} (hc : configOk c = true) (version index : Code2) :
    0 < samplingFrequency c version index.toNat ↔ version ≠ 1#2 ∧ index ≠ 3#2 := by
  have hne := ne_zero_of_legalSamplingFrequency hc
    (legalSamplingFrequency_samplingFrequency c version index.toNat)
  rw [lt_iff_le_and_ne', and_iff_left hne, samplingFrequency_nonneg_iff, ne_eq,
    samplingFrequency_eq_neg_one_iff, not_or, and_comm]

/-! ### The statements of 70_reset_and_hazards.md -/

/-- Settles O49: the run leaves `OUT` as its latest write says, and the inputs after the first edge
write nothing that changes the answer. -/
theorem readsFaultExactlyUntilLoaded : Obligations.ReadsFaultExactlyUntilLoaded := by
  intro s es rest valid h hdr
  refine ⟨fun hes => ?_, fun hes => ?_⟩
  · obtain ⟨t, hrun, hin, hout, -⟩ := run_inputs (.edge true valid hdr :: es) rest s
    rw [outAfter_reset_cons s.out valid hdr hes] at hout
    exact ⟨t, hrun, hin, (readOut_eq_error_iff t _).2 hout⟩
  · obtain ⟨t, hrun, hin, hout, -⟩ := run_inputs (.edge false true h :: es) rest s
    obtain ⟨f, hf⟩ := outAfter_header_cons s.out h hes
    exact ⟨t, f, hrun, hin, (readOut_eq_ok_iff t f).2 (hout.trans hf)⟩

/-- Settles O51: each integer is positive exactly when its lookup reads a table. -/
theorem usableHeadersCharacterised : Obligations.UsableHeadersCharacterised := by
  intro c h hc
  rw [decodeWord_eq_closedForm]
  simp only [usable, closedForm, Bool.and_eq_true, decide_eq_true_eq, bitRate_pos_iff hc,
    samplingFrequency_pos_iff hc]
  tauto

/-- Settles O52: the codes of the record stand in the header, and each integer is negative exactly
for its two causes. -/
theorem hostChecksTestTheHeader : Obligations.HostChecksTestTheHeader := by
  intro c h _
  rw [decodeWord_eq_closedForm]
  refine ⟨(Row.applies_eq_beq .syncOk h).symm, (Row.prot0_applies h).symm, ?_, ?_⟩
  · simp only [Row.applies_eq_beq]
    rfl
  · have hrate : 0 ≤ (closedForm c h).bitRateKbps ↔ (closedForm c h).bitRateKbps ≠ -1 :=
      bitRate_nonneg_iff c _ _ _
    have hfrequency : 0 ≤ (closedForm c h).samplingFrequencyHz ↔
        (closedForm c h).samplingFrequencyHz ≠ -1 := samplingFrequency_nonneg_iff c _ _
    simp only [notInvalid, Bool.and_eq_true, decide_eq_true_eq, hrate, hfrequency, ne_eq,
      closedForm_bitRate_eq_neg_one_iff, closedForm_samplingFrequency_eq_neg_one_iff, not_or,
      Bool.not_eq_true, and_assoc]

/-- Settles O53: what `OUT` holds is legal, and reserved codes select no table. -/
theorem reservedVersionOrLayerComesWithSentinelRate :
    Obligations.ReservedVersionOrLayerComesWithSentinelRate := by
  rintro s f ⟨-, hlegal, -⟩ hf
  obtain ⟨hrate, hfrequency⟩ := hlegal f hf
  exact ⟨fun hv => legalSamplingFrequency_of_none hfrequency ((sfSelect_eq_none_iff _).2 hv),
    fun hcodes => legalBitRate_of_none hrate ((brSelect_eq_none_iff _ _).2 hcodes)⟩

/-- Settles O57: the layer enters the rate alone, and at index 0 the rate does not look at it. -/
theorem integersDoNotRevealTheLayerAtIndexZero :
    Obligations.IntegersDoNotRevealTheLayerAtIndexZero := by
  intro c hi l lo hindex
  rw [decodeWord_append_layer c hi 0#2 l lo, hindex]
  refine ⟨rfl, rfl, rfl, fun hc hversion hsampling => ?_⟩
  rw [decodeWord_eq_closedForm]
  refine (samplingFrequency_pos_iff hc _ _).2 ⟨?_, ?_⟩
  · rwa [extractLsb'_append_above hi _ lo 2 (by decide)]
  · rwa [extractLsb'_append_below hi _ lo (by decide)]

/-- Settles O48: the reset state itself; a read of a state without a record faults. -/
theorem resetLeavesOutUnloaded : Obligations.ResetLeavesOutUnloaded :=
  ⟨rfl, rfl, (readOut_eq_error_iff State.reset _).2 rfl⟩

end Sys2Proof.Machine
